-- ==== Sys2Proof/Word.lean ====
section
/-! DEFINITION. The word types of the block. Nothing here depends on a rule beyond the widths the spec fixes. -/

namespace Sys2Proof

/-- A device register's byte (00_scope R9). -/
abbrev Byte := BitVec 8

/-- A 16-bit count, factor or tick counter (00_scope R9, 10_state R26, R27, R37). -/
abbrev Count := BitVec 16

/-- A host register (10_state R22). -/
abbrev Word := BitVec 32

/-- A 4-bit gain or time code (00_scope R9). -/
abbrev Code := BitVec 4

/-- A transaction descriptor (30_encoding R93). -/
abbrev Descriptor := BitVec 24

end Sys2Proof
end

