-- ==== Sys2Proof/Config.lean ====
section
/-! DEFINITION. What is fixed for one block: the parameters of 00_scope R8, and the free values the spec leaves open.
A free value is an opaque constant: no proof can see what it is. -/

namespace Sys2Proof

/-- The device's operating state (44_device_contract R250). -/
inductive DevMode where
  | off
  | config
  | measIdle
  | measConv
  | measReady
deriving DecidableEq, Repr, Inhabited

/-- The four counts of a finished conversion (44_device_contract R250). -/
structure Sample where
  temp : Count
  a : Count
  b : Count
  c : Count
deriving DecidableEq, Repr, Inhabited

/-- The sensor as the contract describes it (44_device_contract R250). -/
structure Device where
  mode : DevMode
  creg1 : Byte
  creg2 : Byte
  creg3 : Byte
  idbyte : Byte
  sample : Sample
  /-- Ticks since the last trigger. -/
  since : Nat
deriving DecidableEq, Repr, Inhabited

namespace Config

/-- DESIGN CHOICE of the spec (00_scope R8, D21), log 7: the default bus address of the sensor. -/
def devAddrDefault : BitVec 7 := 0x74#7

/-- The expected upper nibble of the identity byte (00_scope R8, 30_encoding R101). -/
def expectedDevId : Code := 0x2#4

/-- The default of the parameter `SETTLE_MS`, the ticks of INIT's settle (00_scope R8, 42_state_machine R187). The parameter is a
field of State, which an integrator may set otherwise (60_exceptions R301; log 7). -/
def settleMsDefault : Count := 10#16

/-- The default of the parameter `PROC_MARGIN_MS`, the ticks READ waits beyond the integration time (00_scope R8,
42_state_machine R196; log 7). -/
def procMarginMsDefault : Count := 20#16

/-- The default of the parameter `POLL_INTERVAL_MS`, the ticks between two status reads (00_scope R8, 42_state_machine R201;
log 7). -/
def pollIntervalMsDefault : Count := 5#16

/-- Ticks after which a not-ready status ends the poll loop (00_scope R8, 42_state_machine R200). -/
def pollBudgetMs : Nat := 500

/-- 40 * 256, the raw count of 0 degrees (00_scope R8, 43_conversion R228). -/
def tempOffsetRaw : Word := 10240#32

/-- The operational-state register's address (00_scope R8, 41_register_map_arbiter R151). -/
def osrAddr : Byte := 0x00#8

/-- The identity register's address (41_register_map_arbiter R151). -/
def idAddr : Byte := 0x02#8

/-- The first control register's address (41_register_map_arbiter R151). -/
def ctrl1Addr : Byte := 0x06#8

/-- The second control register's address (41_register_map_arbiter R151). -/
def ctrl2Addr : Byte := 0x08#8

/-- The third control register's address (41_register_map_arbiter R151). -/
def ctrl3Addr : Byte := 0x09#8

/-- The status register's address in Measurement state; it equals `osrAddr` (41_register_map_arbiter R152). -/
def statusAddr : Byte := 0x00#8

/-- The start of the result block (41_register_map_arbiter R152). -/
def tempAddr : Byte := 0x01#8

/-- The OSR byte of the Configuration selector (30_encoding R97). -/
def osrCfg : Byte := 0x02#8

/-- The OSR byte of the Measurement selector with the trigger bit (30_encoding R97). -/
def osrMeasTrig : Byte := 0x83#8

/-- The OSR byte that selects Measurement without the trigger bit; the block never writes it (44_device_contract R253). -/
def osrMeasIdle : Byte := 0x03#8

/-- The new-data bit of the status byte (30_encoding R102). -/
def ndataBit : Nat := 3

/-- The second control register's value: command mode, fixed clock (30_encoding R100). -/
def ctrl2Value : Byte := 0x40#8

/-- Free value, log 2: channel A's sensitivity, UQ16.16, an OPEN parameter (43_conversion R223). -/
opaque sensA : Word

/-- Free value, log 2: channel B's sensitivity (43_conversion R223). -/
opaque sensB : Word

/-- Free value, log 2: channel C's sensitivity (43_conversion R223). -/
opaque sensC : Word

/-- Free value, log 3: the device at power-up, which may be in any state (44_device_contract R251). -/
opaque powerUpDevice : Device

/-- Free value, log 8: what the converter gives when raw and sensitivity are not 0 and the divisor is 0. The spec defines
`floor(a / b)` only for b > 0 (00_scope R12) and shows that no run from reset meets this (43_conversion R227). -/
opaque irradianceZeroDivisor (raw : Count) (sens : Word) : Word × Bool

/-- Free value, log 9: what `WAIT_CNT` holds after a tick that finds it at 0xFFFF. The spec allows no write of a value that does
not fit (00_scope R12) and shows that no run from reset meets this (60_exceptions R303). -/
opaque waitOverflow : Count

end Config

end Sys2Proof
end

