-- ==== Sys2Proof/Syntax.lean ====
section
/-! DEFINITION. The instructions: one constructor for each row of spec/opcode_table.json, and the three formats their words
come in (30_encoding R90 to R95). Bits the spec says are ignored (R105, R130) are no operands. -/

namespace Sys2Proof

/-- The rows of the opcode table: six command words, four host accesses, seven device transactions. -/
inductive Instr where
  /-- `OP` 0 (40_host_commands R125). -/
  | nop
  /-- `OP` 1 with `GAIN` and `TIME` (40_host_commands R126). -/
  | init (gain time : Code)
  /-- `OP` 2 (40_host_commands R127, R128). -/
  | read
  /-- `OP` 3, reserved (40_host_commands R129). -/
  | rsv3
  /-- `OP` 4 to 7, reserved; the operand is `OP[1:0]` (40_host_commands R129). -/
  | rsv4to7 (op : BitVec 2)
  /-- `OP` 8 to 15, reserved; the operand is `OP[2:0]` (40_host_commands R129). -/
  | rsv8to15 (op : BitVec 3)
  /-- A write to `CMD` (40_host_commands R123). -/
  | hwrCmd (wdata : Word)
  /-- A write to `STATUS` (40_host_commands R132). -/
  | hwrStatus (wdata : Word)
  /-- Any other write (40_host_commands R131). -/
  | hwrOther (off : Byte) (wdata : Word)
  /-- A read (40_host_commands R121). -/
  | hrd (off : Byte)
  /-- OSR gets the Configuration selector (41_register_map_arbiter R161). -/
  | wrOsrCfg
  /-- OSR gets the Measurement selector with the trigger (41_register_map_arbiter R162). -/
  | wrOsrTrig
  /-- Read the identity register (41_register_map_arbiter R163). -/
  | rdId
  /-- CTRL1 gets gain and time (41_register_map_arbiter R164). -/
  | wrCtrl1 (gain time : Code)
  /-- CTRL2 gets its fixed value (41_register_map_arbiter R165). -/
  | wrCtrl2
  /-- Read the status register (41_register_map_arbiter R166). -/
  | rdStatus
  /-- Read the eight result bytes (41_register_map_arbiter R167). -/
  | rdResults
deriving DecidableEq, Repr

/-- An encoded instruction in its format. -/
inductive Frame where
  /-- A 32-bit command word (30_encoding R90). -/
  | cmd (w : Word)
  /-- A host access: its width in bits, the 9-bit descriptor with `dir` in bit 8 and `off` in bits 7 to 0, and the written
  word, which a read does not look at (30_encoding R92). -/
  | access (width : Nat) (desc : BitVec 9) (wdata : Word)
  /-- A 24-bit transaction descriptor (30_encoding R93). -/
  | txn (d : Descriptor)
deriving DecidableEq, Repr

/-- Why a host access is none the block defines. -/
inductive AccessError where
  /-- The access is not 32 bits wide (20_memory R65). -/
  | width
  /-- The offset is no multiple of 4 (20_memory R65). -/
  | misaligned
deriving DecidableEq, Repr

/-- Why a frame is no instruction of the table. -/
inductive DecodeError where
  /-- A host access the block does not define. -/
  | access (e : AccessError)
  /-- The descriptor is none of the seven transactions (30_encoding R95). -/
  | unlistedTransaction
deriving DecidableEq, Repr

end Sys2Proof
end

