-- ==== Sys2Proof/WellFormed.lean ====
section
/-! DEFINITION. When an instruction is one that an encoding stands for: the offset of a host access is a multiple of 4
(20_memory R65), and the row HWR_OTHER is not the write to `CMD` or to `STATUS`, which match first (30_encoding R92). -/

namespace Sys2Proof

/-- The offset is a multiple of 4 (20_memory R65). -/
def offsetAligned (off : Byte) : Bool := off.extractLsb' 0 2 == 0#2

/-- Every operand is one its row's encoding admits. -/
def Instr.wf : Instr → Bool
  | .nop => true
  | .init _ _ => true
  | .read => true
  | .rsv3 => true
  | .rsv4to7 _ => true
  | .rsv8to15 _ => true
  | .hwrCmd _ => true
  | .hwrStatus _ => true
  | .hwrOther off _ => offsetAligned off && off != 0x00#8 && off != 0x04#8
  | .hrd off => offsetAligned off
  | .wrOsrCfg => true
  | .wrOsrTrig => true
  | .rdId => true
  | .wrCtrl1 _ _ => true
  | .wrCtrl2 => true
  | .rdStatus => true
  | .rdResults => true

end Sys2Proof
end

