-- ==== Sys2Proof/Decode.lean ====
section
/-! DEFINITION. The decoder, total on every frame, and after it the encoder, both from 30_encoding R90 to R95. -/

namespace Sys2Proof

/-- `OP`, bits 3 to 0 of a command word (30_encoding R90). -/
def cmdOp (w : Word) : BitVec 4 := w.extractLsb' 0 4

/-- `GAIN`, bits 11 to 8 of a command word (30_encoding R90, R94). -/
def cmdGain (w : Word) : Code := w.extractLsb' 8 4

/-- `TIME`, bits 15 to 12 of a command word (30_encoding R90, R94). -/
def cmdTime (w : Word) : Code := w.extractLsb' 12 4

/-- A descriptor put together from its fields, `RSV` 0 (30_encoding R93, R95). -/
def descriptor (kind : BitVec 2) (lenm1 : BitVec 3) (reg data : Byte) : Descriptor :=
  kind ++ lenm1 ++ 0#3 ++ reg ++ data

/-- 0x000002 (30_encoding R95). -/
def descWrOsrCfg : Descriptor := descriptor 0b00#2 0#3 Config.osrAddr Config.osrCfg

/-- 0x000083 (30_encoding R95). -/
def descWrOsrTrig : Descriptor := descriptor 0b00#2 0#3 Config.osrAddr Config.osrMeasTrig

/-- 0x400200 (30_encoding R95). -/
def descRdId : Descriptor := descriptor 0b01#2 0#3 Config.idAddr 0#8

/-- 0x000600 with gain in bits 7 to 4 and time in bits 3 to 0 (30_encoding R95, R99). -/
def descWrCtrl1 (gain time : Code) : Descriptor := descriptor 0b00#2 0#3 Config.ctrl1Addr (gain ++ time)

/-- 0x000840 (30_encoding R95, R100). -/
def descWrCtrl2 : Descriptor := descriptor 0b00#2 0#3 Config.ctrl2Addr Config.ctrl2Value

/-- 0x400000 (30_encoding R95). -/
def descRdStatus : Descriptor := descriptor 0b01#2 0#3 Config.statusAddr 0#8

/-- 0xB80100: eight bytes, so `LENM1` is 7 (30_encoding R95). -/
def descRdResults : Descriptor := descriptor 0b10#2 7#3 Config.tempAddr 0#8

/-- The command a word stands for. Every word stands for one; only `OP` is looked at, and for INIT `GAIN` and `TIME`
(30_encoding R91, R94, R105). -/
def decodeCmd (w : Word) : Instr :=
  if cmdOp w = 0#4 then .nop
  else if cmdOp w = 1#4 then .init (cmdGain w) (cmdTime w)
  else if cmdOp w = 2#4 then .read
  else if cmdOp w = 3#4 then .rsv3
  else if (cmdOp w).extractLsb' 2 2 = 0b01#2 then .rsv4to7 ((cmdOp w).extractLsb' 0 2)
  else .rsv8to15 ((cmdOp w).extractLsb' 0 3)

/-- The row a host access stands for, the first match winning; a width other than 32 bits and a misaligned offset are
rejected by name (30_encoding R92, 20_memory R65). -/
def decodeAccess (width : Nat) (desc : BitVec 9) (wdata : Word) : Except AccessError Instr :=
  if width ≠ 32 then .error .width
  else if offsetAligned (desc.extractLsb' 0 8) = false then .error .misaligned
  else if desc = 0x100#9 then .ok (.hwrCmd wdata)
  else if desc = 0x104#9 then .ok (.hwrStatus wdata)
  else if desc.extractLsb' 8 1 = 1#1 then .ok (.hwrOther (desc.extractLsb' 0 8) wdata)
  else .ok (.hrd (desc.extractLsb' 0 8))

/-- The transaction a descriptor stands for, if it is one of the seven (30_encoding R95). -/
def decodeTxn (d : Descriptor) : Except DecodeError Instr :=
  if d = descWrOsrCfg then .ok .wrOsrCfg
  else if d = descWrOsrTrig then .ok .wrOsrTrig
  else if d = descRdId then .ok .rdId
  else if d = descWrCtrl1 (d.extractLsb' 4 4) (d.extractLsb' 0 4) then .ok (.wrCtrl1 (d.extractLsb' 4 4) (d.extractLsb' 0 4))
  else if d = descWrCtrl2 then .ok .wrCtrl2
  else if d = descRdStatus then .ok .rdStatus
  else if d = descRdResults then .ok .rdResults
  else .error .unlistedTransaction

/-- The decoder. -/
def decode : Frame → Except DecodeError Instr
  | .cmd w => .ok (decodeCmd w)
  | .access width desc wdata =>
    match decodeAccess width desc wdata with
    | .ok i => .ok i
    | .error e => .error (.access e)
  | .txn d => decodeTxn d

/-- The command word with `TIME`, `GAIN` and `OP`, every ignored bit 0 (30_encoding R90). -/
def cmdWord (time gain : Code) (op : BitVec 4) : Word := 0#16 ++ time ++ gain ++ 0#4 ++ op

/-- The encoder. -/
def encode : Instr → Frame
  | .nop => .cmd (cmdWord 0 0 0#4)
  | .init gain time => .cmd (cmdWord time gain 1#4)
  | .read => .cmd (cmdWord 0 0 2#4)
  | .rsv3 => .cmd (cmdWord 0 0 3#4)
  | .rsv4to7 op => .cmd (cmdWord 0 0 (0b01#2 ++ op))
  | .rsv8to15 op => .cmd (cmdWord 0 0 (1#1 ++ op))
  | .hwrCmd wdata => .access 32 0x100#9 wdata
  | .hwrStatus wdata => .access 32 0x104#9 wdata
  | .hwrOther off wdata => .access 32 (1#1 ++ off) wdata
  | .hrd off => .access 32 (0#1 ++ off) 0#32
  | .wrOsrCfg => .txn descWrOsrCfg
  | .wrOsrTrig => .txn descWrOsrTrig
  | .rdId => .txn descRdId
  | .wrCtrl1 gain time => .txn (descWrCtrl1 gain time)
  | .wrCtrl2 => .txn descWrCtrl2
  | .rdStatus => .txn descRdStatus
  | .rdResults => .txn descRdResults

/-- The frame that `nbits` bits numbered as the opcode table numbers them stand for. The number of bits tells the three
formats apart: a host access has 9 bits, so 16 in whole bytes (48 with the written word after them, in bits 47 to 16); a
transaction has 24; a command word has 32, of which bits left out are 0. -/
def frameOfTableWord (nbits w : Nat) : Frame :=
  if 8 < nbits ∧ nbits ≤ 16 then .access 32 (BitVec.ofNat 9 w) 0#32
  else if 16 < nbits ∧ nbits ≤ 24 then .txn (BitVec.ofNat 24 w)
  else if 32 < nbits then .access 32 (BitVec.ofNat 9 w) (BitVec.ofNat 32 (w / 2 ^ 16))
  else .cmd (BitVec.ofNat 32 w)

/-- The instruction the decoder reads from the bits of a row of the opcode table. -/
def decodeTableWord (nbits w : Nat) : Option Instr :=
  match decode (frameOfTableWord nbits w) with
  | .ok i => some i
  | .error _ => none

end Sys2Proof
end

