-- ==== Sys2Proof/Machine/State.lean ====
section
/-! DEFINITION. The state of the machine: the block's registers, its parameters, the environment of 44_device_contract, and
the fields the model needs to say which agent moves next. All of it is plain data. -/

namespace Sys2Proof.Machine

/-- `PHASE`, and the codes of `FAIL_PHASE` (10_state R36). -/
inductive Phase where
  | idle
  | iWrOsr
  | iSettle
  | iRdId
  | iWrCtrl1
  | iWrCtrl2
  | rWrTrig
  | rWait
  | rPollRd
  | rPollWait
  | rBlkRd
  | rWrCfg
deriving DecidableEq, Repr

/-- `DS`, the declared state (10_state R34). -/
inductive DState where
  | off
  | config
  | measIdle
  | measConv
  | measReady
deriving DecidableEq, Repr

/-- `STATUS.ERR` (10_state R33). -/
inductive ErrCode where
  | none
  | illegalCmd
  | notInit
  | busFail
  | arbViolation
deriving DecidableEq, Repr

/-- Eight bytes, `BLK[0..7]` (10_state R37). -/
structure Block where
  b0 : Byte
  b1 : Byte
  b2 : Byte
  b3 : Byte
  b4 : Byte
  b5 : Byte
  b6 : Byte
  b7 : Byte
deriving DecidableEq, Repr

/-- What a transaction that failed did at the device (44_device_contract R264). -/
inductive FailEffect where
  | acted
  | notActed
  | anyState
deriving DecidableEq, Repr

/-- The part of the device the contract lets take any value (44_device_contract R253, R260). -/
structure Havoc where
  mode : DevMode
  creg1 : Byte
  creg2 : Byte
  creg3 : Byte
  sample : Sample
deriving DecidableEq, Repr

/-- The environment's choices for one answer of the transport: the outcome, what a failed transaction did, the bytes a read
returns where the contract says any byte, and the device where it says any value (44_device_contract R252 to R264; log 1). -/
structure Choice where
  ok : Bool
  failEffect : FailEffect
  noise : Block
  havoc : Havoc
deriving DecidableEq, Repr

/-- One step of an agent other than HOST (00_scope R7). -/
inductive EnvEvent where
  /-- TRANSPORT answers the outstanding request (44_device_contract R264, R265). -/
  | transport (c : Choice)
  /-- TRANSPORT carries out a request that a reset abandoned, the `k`th of them (70_reset_and_hazards R320; log 4). -/
  | late (k : Nat) (c : Choice)
  /-- The device finishes its conversion (44_device_contract R254). -/
  | devReady (sample : Sample)
  /-- One millisecond passed (60_exceptions R300). -/
  | tick
  /-- RESET asserts the reset input (70_reset_and_hazards R320). -/
  | reset
deriving DecidableEq, Repr

/-- One step of an agent (00_scope R7). -/
inductive Event where
  /-- HOST performs an access of the given width (20_memory R65, 30_encoding R92). -/
  | host (width : Nat) (desc : BitVec 9) (wdata : Word)
  /-- TRANSPORT, the device, TIMEBASE or RESET moves. -/
  | env (e : EnvEvent)
deriving DecidableEq, Repr

/-- The state. -/
structure State where
  /-- `STATUS[0]` (10_state R24, as the fields after it up to `failPhase`). -/
  busy : Bool
  /-- `STATUS[1]`. -/
  done : Bool
  /-- `STATUS[2]`. -/
  initOk : Bool
  /-- `STATUS[3]`. -/
  valid : Bool
  /-- `STATUS[4]`. -/
  degraded : Bool
  /-- `STATUS[5]`. -/
  idWarn : Bool
  /-- `STATUS[6]`. -/
  ovr : Bool
  /-- `STATUS[10:8]`. -/
  err : ErrCode
  /-- `STATUS[11]`, channel A. -/
  satA : Bool
  /-- `STATUS[12]`, channel B. -/
  satB : Bool
  /-- `STATUS[13]`, channel C. -/
  satC : Bool
  /-- `DS`, `STATUS[18:16]` (10_state R34). -/
  ds : DState
  /-- `REQ_PENDING`, `STATUS[19]` (10_state R37). -/
  reqPending : Bool
  /-- `PHASE`, `STATUS[23:20]` (10_state R36). -/
  phase : Phase
  /-- `FAIL_PHASE`, `STATUS[27:24]`. -/
  failPhase : Phase
  /-- `CONFIG[3:0]` (10_state R25). -/
  gainCode : Code
  /-- `CONFIG[7:4]`. -/
  timeCode : Code
  /-- `CONFIG[15:8]`. -/
  devId : Byte
  /-- `FACTORS[15:0]` (10_state R26). -/
  gainFactor : Count
  /-- `FACTORS[31:16]`. -/
  intTimeMs : Count
  /-- `RAW0[15:0]` (10_state R27). -/
  rawTemp : Count
  /-- `RAW0[31:16]`. -/
  rawA : Count
  /-- `RAW1[15:0]`. -/
  rawB : Count
  /-- `RAW1[31:16]`. -/
  rawC : Count
  /-- `IRR_A` (10_state R28). -/
  irrA : Word
  /-- `IRR_B`. -/
  irrB : Word
  /-- `IRR_C`. -/
  irrC : Word
  /-- `TEMP` (10_state R29). -/
  temp : Word
  /-- `WAIT_CNT` (10_state R37). -/
  waitCnt : Count
  /-- `POLL_CNT`. -/
  pollCnt : Count
  /-- `BLK[0..7]`. -/
  blk : Block
  /-- `REQ`. -/
  req : Descriptor
  /-- `DEV_ADDR`, a parameter of this block (00_scope R8). -/
  devAddr : BitVec 7
  /-- `SENS_A_FX`, a parameter (43_conversion R223). -/
  sensA : Word
  /-- `SENS_B_FX`. -/
  sensB : Word
  /-- `SENS_C_FX`. -/
  sensC : Word
  /-- `SETTLE_MS`, a parameter of this block (00_scope R8, 60_exceptions R301, 93_implementation_defined I24). -/
  settleMs : Count
  /-- `PROC_MARGIN_MS`, a parameter. -/
  procMarginMs : Count
  /-- `POLL_INTERVAL_MS`, a parameter. -/
  pollIntervalMs : Count
  /-- The sensor (44_device_contract R250). -/
  dev : Device
  /-- Requests a reset abandoned and the transport has not carried out, oldest first (70_reset_and_hazards R320). -/
  abandoned : List Descriptor
  /-- The model's own: the word the last `HostRead` returned to HOST (40_host_commands R121; log 5). -/
  hostRdata : Word
  /-- The model's own: a descriptor offered to the arbiter as a step by itself (log 6). -/
  offer : Option Descriptor
  /-- The model's own: the events to come, the next one first (log 1). -/
  schedule : List Event
deriving DecidableEq, Repr

/-- Why a run stops because the schedule names an event the contract of 44_device_contract does not admit. No event a run from
reset can take raises one, so all are safe. -/
inductive Fault where
  /-- Raised by an answer in a phase that waits for none, or with the wrong number of bytes: "Every (phase, event) pair not
  in the table cannot occur" (42_state_machine R207), "The environment cannot produce any other response" (44 R265). Safe. -/
  | responseNotAdmitted
  /-- Raised by `devReady` while the device is not converting or before its integration time is over (44 R254). Safe. -/
  | readyNotAdmitted
  /-- Raised by `late` when there is no such abandoned request (70 R320). Safe. -/
  | lateNotAdmitted
deriving DecidableEq, Repr

/-- Why an access has no meaning. -/
inductive Refusal where
  /-- Raised by a host access whose width is not 32 bits: "A model refuses" it (20_memory R65). Safe. -/
  | accessWidth
  /-- Raised by a host access whose offset is no multiple of 4: "A model refuses" it (20_memory R65). Safe. -/
  | misalignedAccess
  /-- Raised by an arm of exec whose instruction has no meaning in this model. Safe. -/
  | notModelled (mnemonic : String)
deriving DecidableEq, Repr

/-- How a step ends. -/
abbrev Result := Host.Outcome State Fault Refusal

/-- Eight zero bytes. -/
def Block.zero : Block := ⟨0#8, 0#8, 0#8, 0#8, 0#8, 0#8, 0#8, 0#8⟩

/-- The machine after reset at power-up (70_reset_and_hazards R320, R321). The parameters are those the block is built with
(R324), the device is in any state (44_device_contract R251), and nobody has done anything yet. -/
def State.reset : State where
  busy := false
  done := false
  initOk := false
  valid := false
  degraded := false
  idWarn := false
  ovr := false
  err := .none
  satA := false
  satB := false
  satC := false
  ds := .off
  reqPending := false
  phase := .idle
  failPhase := .idle
  gainCode := 0#4
  timeCode := 0#4
  devId := 0#8
  gainFactor := 0#16
  intTimeMs := 0#16
  rawTemp := 0#16
  rawA := 0#16
  rawB := 0#16
  rawC := 0#16
  irrA := 0#32
  irrB := 0#32
  irrC := 0#32
  temp := 0#32
  waitCnt := 0#16
  pollCnt := 0#16
  blk := Block.zero
  req := 0#24
  devAddr := Config.devAddrDefault
  sensA := Config.sensA
  sensB := Config.sensB
  sensC := Config.sensC
  settleMs := Config.settleMsDefault
  procMarginMs := Config.procMarginMsDefault
  pollIntervalMs := Config.pollIntervalMsDefault
  dev := Config.powerUpDevice
  abandoned := []
  hostRdata := 0#32
  offer := none
  schedule := []

end Sys2Proof.Machine
end

