-- ==== Sys2Proof/Machine/Operands.lean ====
section
/-! DEFINITION. The views of the state that operands and ports name: register codes, the ten host registers, the fields of a
descriptor, the block's ports and the byte orders. -/

namespace Sys2Proof.Machine

/-- The code of a phase (10_state R36). -/
def Phase.code : Phase → BitVec 4
  | .idle => 0
  | .iWrOsr => 1
  | .iSettle => 2
  | .iRdId => 3
  | .iWrCtrl1 => 4
  | .iWrCtrl2 => 5
  | .rWrTrig => 6
  | .rWait => 7
  | .rPollRd => 8
  | .rPollWait => 9
  | .rBlkRd => 10
  | .rWrCfg => 11

/-- The phase waits for the response to a transaction (42_state_machine R180). -/
def Phase.isTransaction : Phase → Bool
  | .idle => false
  | .iWrOsr => true
  | .iSettle => false
  | .iRdId => true
  | .iWrCtrl1 => true
  | .iWrCtrl2 => true
  | .rWrTrig => true
  | .rWait => false
  | .rPollRd => true
  | .rPollWait => false
  | .rBlkRd => true
  | .rWrCfg => true

/-- The phase is one of INIT's (42_state_machine R180). -/
def Phase.isInit : Phase → Bool
  | .iWrOsr | .iSettle | .iRdId | .iWrCtrl1 | .iWrCtrl2 => true
  | .idle | .rWrTrig | .rWait | .rPollRd | .rPollWait | .rBlkRd | .rWrCfg => false

/-- The phase is one of READ's (42_state_machine R180). -/
def Phase.isRead : Phase → Bool
  | .rWrTrig | .rWait | .rPollRd | .rPollWait | .rBlkRd | .rWrCfg => true
  | .idle | .iWrOsr | .iSettle | .iRdId | .iWrCtrl1 | .iWrCtrl2 => false

/-- The code of a declared state (10_state R34). -/
def DState.code : DState → BitVec 3
  | .off => 0
  | .config => 1
  | .measIdle => 2
  | .measConv => 3
  | .measReady => 4

/-- The code of an error (10_state R33). -/
def ErrCode.code : ErrCode → BitVec 3
  | .none => 0
  | .illegalCmd => 1
  | .notInit => 2
  | .busFail => 3
  | .arbViolation => 4

/-- `STATUS` as HOST reads it (40_host_commands R121, 10_state R24). -/
def State.statusWord (s : State) : Word :=
  0#4 ++ s.failPhase.code ++ s.phase.code ++ BitVec.ofBool s.reqPending ++ s.ds.code ++ 0#2
    ++ BitVec.ofBool s.satC ++ BitVec.ofBool s.satB ++ BitVec.ofBool s.satA ++ s.err.code ++ 0#1
    ++ BitVec.ofBool s.ovr ++ BitVec.ofBool s.idWarn ++ BitVec.ofBool s.degraded ++ BitVec.ofBool s.valid
    ++ BitVec.ofBool s.initOk ++ BitVec.ofBool s.done ++ BitVec.ofBool s.busy

/-- `CONFIG` as HOST reads it (40_host_commands R121, 10_state R25). -/
def State.configWord (s : State) : Word := 0#16 ++ s.devId ++ s.timeCode ++ s.gainCode

/-- `FACTORS` as HOST reads it (40_host_commands R121, 10_state R26). -/
def State.factorsWord (s : State) : Word := s.intTimeMs ++ s.gainFactor

/-- `RAW0` as HOST reads it (10_state R27). -/
def State.raw0Word (s : State) : Word := s.rawA ++ s.rawTemp

/-- `RAW1` as HOST reads it (10_state R27). -/
def State.raw1Word (s : State) : Word := s.rawC ++ s.rawB

/-- What `HostRead(off)` returns (40_host_commands R121); offsets that hold no register, and `CMD`, read 0 (20_memory R64,
10_state R23). -/
def State.hostRegister (s : State) (off : Byte) : Word :=
  if off = 0x04#8 then s.statusWord
  else if off = 0x08#8 then s.configWord
  else if off = 0x0C#8 then s.factorsWord
  else if off = 0x10#8 then s.raw0Word
  else if off = 0x14#8 then s.raw1Word
  else if off = 0x18#8 then s.irrA
  else if off = 0x1C#8 then s.irrB
  else if off = 0x20#8 then s.irrC
  else if off = 0x24#8 then s.temp
  else 0#32

/-- The interrupt output, a level equal to `DONE` (60_exceptions R287). -/
def State.irq (s : State) : Bool := s.done

/-- `KIND` of a descriptor (30_encoding R93). -/
def txnKind (d : Descriptor) : BitVec 2 := d.extractLsb' 22 2

/-- `LENM1` of a descriptor. -/
def txnLenM1 (d : Descriptor) : BitVec 3 := d.extractLsb' 19 3

/-- `RSV` of a descriptor. -/
def txnRsv (d : Descriptor) : BitVec 3 := d.extractLsb' 16 3

/-- `REG` of a descriptor. -/
def txnReg (d : Descriptor) : Byte := d.extractLsb' 8 8

/-- `DATA` of a descriptor. -/
def txnData (d : Descriptor) : Byte := d.extractLsb' 0 8

/-- The descriptor of the transaction a phase has outstanding, with the codes INIT latched (42_state_machine R180 to R203). -/
def Phase.request (p : Phase) (gain time : Code) : Option Descriptor :=
  match p with
  | .idle => none
  | .iWrOsr => some descWrOsrCfg
  | .iSettle => none
  | .iRdId => some descRdId
  | .iWrCtrl1 => some (descWrCtrl1 gain time)
  | .iWrCtrl2 => some descWrCtrl2
  | .rWrTrig => some descWrOsrTrig
  | .rWait => none
  | .rPollRd => some descRdStatus
  | .rPollWait => none
  | .rBlkRd => some descRdResults
  | .rWrCfg => some descWrOsrCfg

/-- The low byte, then the high byte (20_memory R67). -/
def leBytes16 (v : Count) : List Byte := [v.extractLsb' 0 8, v.extractLsb' 8 8]

/-- The bytes a host that splits a 32-bit read sees, at offset +0 first (20_memory R66). -/
def leBytes32 (v : Word) : List Byte := [v.extractLsb' 0 8, v.extractLsb' 8 8, v.extractLsb' 16 8, v.extractLsb' 24 8]

/-- A block's bytes in order. -/
def Block.bytes (b : Block) : List Byte := [b.b0, b.b1, b.b2, b.b3, b.b4, b.b5, b.b6, b.b7]

/-- The little-endian encoding of a sample: temperature, A, B, C (30_encoding R103). -/
def sampleBytes (m : Sample) : List Byte := leBytes16 m.temp ++ leBytes16 m.a ++ leBytes16 m.b ++ leBytes16 m.c

end Sys2Proof.Machine
end

