-- ==== Sys2Proof/Machine/Flags.lean ====
section
/-! DEFINITION. The procedures that write the flags of `STATUS` (10_state R24, R30): begin, reject, finish, drop, clear. -/

namespace Sys2Proof.Machine

/-- `begin_command()` (40_host_commands R133). -/
def beginCommand (s : State) : State :=
  { s with
    busy := true, done := false, err := .none, failPhase := .idle
    valid := false, degraded := false, satA := false, satB := false, satC := false
    rawTemp := 0#16, rawA := 0#16, rawB := 0#16, rawC := 0#16
    irrA := 0#32, irrB := 0#32, irrC := 0#32, temp := 0#32 }

/-- `reject(code)` (40_host_commands R134). -/
def rejectCommand (code : ErrCode) (s : State) : State :=
  { s with done := true, err := code, failPhase := .idle }

/-- The dropped command (40_host_commands R124). -/
def dropCommand (s : State) : State := { s with ovr := true }

/-- `finish()` (42_state_machine R184). -/
def finish (s : State) : State := { s with busy := false, done := true, phase := .idle }

/-- The `STATUS` clear: bit 1 clears `DONE`, bit 6 clears `OVR` (40_host_commands R132). -/
def clearStatus (w : Word) (s : State) : State :=
  { s with
    done := if w.getLsbD 1 then false else s.done
    ovr := if w.getLsbD 6 then false else s.ovr }

end Sys2Proof.Machine
end

