-- ==== Sys2Proof/Machine/Ops.lean ====
section
/-! DEFINITION. The shared operations: the arbiter's check, `issue`, the error exits (the block's form of taking an
exception: 60_exceptions R280, R294), what accepting a command does, and the two host accesses. There is no return from an
error (60_exceptions R295): HOST acknowledges it by `clearStatus` or by the next command. -/

namespace Sys2Proof.Machine

/-- The class of a declared state (41_register_map_arbiter R154). -/
inductive StateClass where
  | off
  | config
  | meas
deriving DecidableEq, Repr

/-- `cls(ds)` (41_register_map_arbiter R154). -/
def DState.cls : DState → StateClass
  | .off => .off
  | .config => .config
  | .measIdle => .meas
  | .measConv => .meas
  | .measReady => .meas

/-- `valid(ds, t)`, line by line as the spec gives it (41_register_map_arbiter R155). -/
def txnValid (ds : DState) (t : Descriptor) : Bool :=
  if txnKind t = 0b11#2 ∨ txnRsv t ≠ 0#3 then false
  else if txnKind t ≠ 0b10#2 ∧ txnLenM1 t ≠ 0#3 then false
  else if txnKind t ≠ 0b00#2 ∧ txnData t ≠ 0#8 then false
  else if txnKind t = 0b00#2 ∧ txnReg t = Config.osrAddr then true
  else match ds.cls with
    | .off => false
    | .config =>
      (txnKind t == 0b01#2 && [Config.osrAddr, Config.idAddr, Config.ctrl1Addr, Config.ctrl2Addr, Config.ctrl3Addr].contains (txnReg t))
        || (txnKind t == 0b00#2 && [Config.ctrl1Addr, Config.ctrl2Addr, Config.ctrl3Addr].contains (txnReg t))
    | .meas =>
      (txnKind t == 0b01#2 && txnReg t == Config.statusAddr) || (txnKind t == 0b10#2 && txnReg t == Config.tempAddr)

/-- `abort(code)`, the error exit from a transaction phase (60_exceptions R290). -/
def abort (code : ErrCode) (s : State) : State :=
  { s with err := code, failPhase := s.phase, busy := false, done := true, phase := .idle }

/-- `abort_arb()`, the error exit when the arbiter refuses (60_exceptions R291). -/
def abortArb (s : State) : State :=
  { s with
    err := .arbViolation, failPhase := s.phase, initOk := false, reqPending := false
    busy := false, done := true, phase := .idle }

/-- The admitted request goes to the transport port (41_register_map_arbiter R160). -/
def placeRequest (t : Descriptor) (s : State) : State := { s with req := t, reqPending := true }

/-- `issue(txn)` (41_register_map_arbiter R160). -/
def issue (t : Descriptor) (s : State) : State := if txnValid s.ds t then placeRequest t s else abortArb s

/-- INIT accepted (40_host_commands R126). -/
def acceptInit (gain time : Code) (s : State) : State :=
  issue descWrOsrCfg
    { beginCommand s with initOk := false, idWarn := false, gainCode := gain, timeCode := time, phase := .iWrOsr }

/-- READ accepted (40_host_commands R128). -/
def acceptRead (s : State) : State := issue descWrOsrTrig { beginCommand s with phase := .rWrTrig }

/-- INIT written to `CMD`: dropped while busy, else accepted (40_host_commands R123). -/
def commandInit (gain time : Code) (s : State) : State :=
  if s.busy then dropCommand s else acceptInit gain time s

/-- READ written to `CMD`: dropped while busy, rejected without a usable INIT, else accepted (40_host_commands R123). -/
def commandRead (s : State) : State :=
  if s.busy then dropCommand s else if s.initOk then acceptRead s else rejectCommand .notInit s

/-- A reserved command written to `CMD`: dropped while busy, else rejected (40_host_commands R123, R129). -/
def commandReserved (s : State) : State :=
  if s.busy then dropCommand s else rejectCommand .illegalCmd s

/-- A write to `CMD`, in the order the spec decodes it (40_host_commands R123, 60_exceptions R293). -/
def commandWrite (w : Word) (s : State) : State :=
  if cmdOp w = 0#4 then s
  else if s.busy then dropCommand s
  else if cmdOp w = 1#4 then acceptInit (cmdGain w) (cmdTime w) s
  else if cmdOp w = 2#4 ∧ s.initOk = false then rejectCommand .notInit s
  else if cmdOp w = 2#4 then acceptRead s
  else rejectCommand .illegalCmd s

/-- `HostWrite(off, w)` (40_host_commands R122, R131; misaligned: 20_memory R65). -/
def hostWrite (off : Byte) (w : Word) (s : State) : Result :=
  if offsetAligned off = false then .refused .misalignedAccess
  else if off = 0x00#8 then .next (commandWrite w s)
  else if off = 0x04#8 then .next (clearStatus w s)
  else .next s

/-- `HostRead(off)`: HOST receives the word, and nothing of the block changes (40_host_commands R121, 20_memory R65, R71). -/
def hostRead (off : Byte) (s : State) : Result :=
  if offsetAligned off = false then .refused .misalignedAccess
  else .next { s with hostRdata := s.hostRegister off }

end Sys2Proof.Machine
end

