-- ==== Sys2Proof/Machine/Commands.lean ====
section
/-! DEFINITION. The six command words (CMD32): what a write of the word to `CMD` does (40_host_commands R123 to R130). -/

namespace Sys2Proof.Machine

/-- NOP: no effect in every phase, busy or idle (40_host_commands R125). -/
def execNop (s : State) : Result := .next s

/-- INIT (40_host_commands R126; R124 while busy). -/
def execInit (gain time : Code) (s : State) : Result := .next (commandInit gain time s)

/-- READ (40_host_commands R127, R128; R124 while busy). -/
def execRead (s : State) : Result := .next (commandRead s)

/-- The reserved `OP` 3 (40_host_commands R129; R124 while busy). -/
def execRsv3 (s : State) : Result := .next (commandReserved s)

/-- The reserved `OP` 4 to 7, all alike (40_host_commands R129; R124 while busy). -/
def execRsv4to7 (_op : BitVec 2) (s : State) : Result := .next (commandReserved s)

/-- The reserved `OP` 8 to 15, all alike (40_host_commands R129; R124 while busy). -/
def execRsv8to15 (_op : BitVec 3) (s : State) : Result := .next (commandReserved s)

end Sys2Proof.Machine
end

