-- ==== Sys2Proof/Machine/HostAccess.lean ====
section
/-! DEFINITION. The four host accesses (HOSTACC9): 40_host_commands R121 to R123, R131, R132. -/

namespace Sys2Proof.Machine

/-- HWR_CMD: a write to `CMD` at offset 0x00 (40_host_commands R123). -/
def execHwrCmd (wdata : Word) (s : State) : Result := hostWrite 0x00#8 wdata s

/-- HWR_STATUS: a write to `STATUS` at offset 0x04 (40_host_commands R132). -/
def execHwrStatus (wdata : Word) (s : State) : Result := hostWrite 0x04#8 wdata s

/-- HWR_OTHER: a write to any other aligned offset, without effect (40_host_commands R131). -/
def execHwrOther (off : Byte) (wdata : Word) (s : State) : Result := hostWrite off wdata s

/-- HRD (40_host_commands R121). -/
def execHrd (off : Byte) (s : State) : Result := hostRead off s

end Sys2Proof.Machine
end

