-- ==== Sys2Proof/Machine/Transactions.lean ====
section
/-! DEFINITION. The seven device transactions (TXN24). To run one is to `issue` it (41_register_map_arbiter R160): the
arbiter checks it against the declared state, then it stands on the transport port, or the command ends by `abort_arb`. The
device acts when the transport answers ok, in a later step (44_device_contract R252, R265; Machine/Device.lean); what the
block then does is 42_state_machine (Machine/Sequencer.lean). -/

namespace Sys2Proof.Machine

/-- WR_OSR_CFG (41_register_map_arbiter R161). -/
def execWrOsrCfg (s : State) : Result := .next (issue descWrOsrCfg s)

/-- WR_OSR_TRIG (41_register_map_arbiter R162). -/
def execWrOsrTrig (s : State) : Result := .next (issue descWrOsrTrig s)

/-- RD_ID (41_register_map_arbiter R163). -/
def execRdId (s : State) : Result := .next (issue descRdId s)

/-- WR_CTRL1 (41_register_map_arbiter R164). -/
def execWrCtrl1 (gain time : Code) (s : State) : Result := .next (issue (descWrCtrl1 gain time) s)

/-- WR_CTRL2 (41_register_map_arbiter R165). -/
def execWrCtrl2 (s : State) : Result := .next (issue descWrCtrl2 s)

/-- RD_STATUS (41_register_map_arbiter R166). -/
def execRdStatus (s : State) : Result := .next (issue descRdStatus s)

/-- RD_RESULTS (41_register_map_arbiter R167). -/
def execRdResults (s : State) : Result := .next (issue descRdResults s)

end Sys2Proof.Machine
end

