-- ==== Sys2Proof/Machine/Dispatch.lean ====
section
/-! DEFINITION. One arm for each instruction. -/

namespace Sys2Proof.Machine

def exec (i : Instr) (s : State) : Host.Outcome State Fault Refusal :=
  match i with
  | .nop => Sys2Proof.Machine.execNop s
  | .init gain time => Sys2Proof.Machine.execInit gain time s
  | .read => Sys2Proof.Machine.execRead s
  | .rsv3 => Sys2Proof.Machine.execRsv3 s
  | .rsv4to7 op => Sys2Proof.Machine.execRsv4to7 op s
  | .rsv8to15 op => Sys2Proof.Machine.execRsv8to15 op s
  | .hwrCmd wdata => Sys2Proof.Machine.execHwrCmd wdata s
  | .hwrStatus wdata => Sys2Proof.Machine.execHwrStatus wdata s
  | .hwrOther off wdata => Sys2Proof.Machine.execHwrOther off wdata s
  | .hrd off => Sys2Proof.Machine.execHrd off s
  | .wrOsrCfg => Sys2Proof.Machine.execWrOsrCfg s
  | .wrOsrTrig => Sys2Proof.Machine.execWrOsrTrig s
  | .rdId => Sys2Proof.Machine.execRdId s
  | .wrCtrl1 gain time => Sys2Proof.Machine.execWrCtrl1 gain time s
  | .wrCtrl2 => Sys2Proof.Machine.execWrCtrl2 s
  | .rdStatus => Sys2Proof.Machine.execRdStatus s
  | .rdResults => Sys2Proof.Machine.execRdResults s

end Sys2Proof.Machine
end

