-- ==== Sys2Proof/Machine/Conversion.lean ====
section
/-! DEFINITION. The conversion engine (43_conversion). -/

namespace Sys2Proof.Machine

/-- `gainFactor = 2^gainCode`, as `1 << GAIN_CODE` in 16 bits (43_conversion R221). -/
def gainFactorOf (gain : Code) : Count := 1#16 <<< gain.toNat

/-- `integrationTimeMs = 2^timeCode`, as `1 << TIME_CODE` in 16 bits (43_conversion R222). -/
def intTimeOf (time : Code) : Count := 1#16 <<< time.toNat

/-- The sample the block read holds: each count little-endian (43_conversion R220). -/
def decodeBlock (b : Block) : Sample where
  temp := b.b1 ++ b.b0
  a := b.b3 ++ b.b2
  b := b.b5 ++ b.b4
  c := b.b7 ++ b.b6

/-- `irr(raw, S)`: the UQ16.16 value and the saturation bit (43_conversion R224, R226, R227). -/
def irradiance (raw : Count) (sens : Word) (gainFactor intTimeMs : Count) : Word × Bool :=
  let divisor := sens.toNat * gainFactor.toNat * intTimeMs.toNat
  if raw = 0#16 ∨ sens = 0#32 then (0#32, false)
  else if divisor = 0 then Config.irradianceZeroDivisor raw sens
  else if raw.toNat * 2 ^ 32 / divisor > 0xFFFFFFFF then (0xFFFFFFFF#32, true)
  else (BitVec.ofNat 32 (raw.toNat * 2 ^ 32 / divisor), false)

/-- `temp(raw)`, SQ24.8 (43_conversion R228). -/
def temperature (raw : Count) : Word := raw.setWidth 32 - Config.tempOffsetRaw

end Sys2Proof.Machine
end

