-- ==== Sys2Proof/Machine/Sequencer.lean ====
section
/-! DEFINITION. The sequencer (42_state_machine): what each phase does with a response and with a tick, and the block's reset
(70_reset_and_hazards R320). -/

namespace Sys2Proof.Machine

/-- READ's last step commits the sample, and every result changes in it (42_state_machine R205). -/
def commitResults (s : State) : State :=
  let m := decodeBlock s.blk
  let a := irradiance m.a s.sensA s.gainFactor s.intTimeMs
  let b := irradiance m.b s.sensB s.gainFactor s.intTimeMs
  let c := irradiance m.c s.sensC s.gainFactor s.intTimeMs
  { s with
    rawTemp := m.temp, rawA := m.a, rawB := m.b, rawC := m.c
    irrA := a.1, satA := a.2, irrB := b.1, satB := b.2, irrC := c.1, satC := c.2
    temp := temperature m.temp, valid := true }

/-- A written register's ok carries no data (44_device_contract R265). -/
def onWritten (data : List Byte) (s : State) : Result :=
  match data with
  | [] => .next s
  | _ :: _ => .fault .responseNotAdmitted

/-- A byte read's ok carries one byte (44_device_contract R265). -/
def onByte (data : List Byte) (f : Byte → State) : Result :=
  match data with
  | [d] => .next (f d)
  | _ => .fault .responseNotAdmitted

/-- The result read's ok carries eight bytes (44_device_contract R265). -/
def onBlock (data : List Byte) (f : Block → State) : Result :=
  match data with
  | [b0, b1, b2, b3, b4, b5, b6, b7] => .next (f ⟨b0, b1, b2, b3, b4, b5, b6, b7⟩)
  | _ => .fault .responseNotAdmitted

/-- `I_WR_OSR` done (42_state_machine R186). -/
def afterInitOsr (s : State) : State := { s with ds := .config, waitCnt := 0#16, phase := .iSettle }

/-- The identity byte came (42_state_machine R188). -/
def afterIdentity (d : Byte) (s : State) : State :=
  issue (descWrCtrl1 s.gainCode s.timeCode)
    { s with
      devId := d
      idWarn := if d.extractLsb' 4 4 ≠ Config.expectedDevId then true else s.idWarn
      phase := .iWrCtrl1 }

/-- CTRL1 is written (42_state_machine R189). -/
def afterCtrl1 (s : State) : State := issue descWrCtrl2 { s with phase := .iWrCtrl2 }

/-- CTRL2 is written: INIT ends (42_state_machine R191). -/
def afterCtrl2 (s : State) : State :=
  finish { s with gainFactor := gainFactorOf s.gainCode, intTimeMs := intTimeOf s.timeCode, initOk := true }

/-- The trigger is written (42_state_machine R194). -/
def afterTrigger (s : State) : State := { s with ds := .measConv, waitCnt := 0#16, phase := .rWait }

/-- A status byte came: ready first, then the budget (42_state_machine R198 to R200). -/
def afterStatus (d : Byte) (s : State) : State :=
  if d.getLsbD Config.ndataBit then issue descRdResults { s with ds := .measReady, phase := .rBlkRd }
  else if s.pollCnt.toNat < Config.pollBudgetMs then { s with waitCnt := 0#16, phase := .rPollWait }
  else issue descRdResults { s with degraded := true, phase := .rBlkRd }

/-- The result bytes came (42_state_machine R203). -/
def afterResults (b : Block) (s : State) : State := issue descWrOsrCfg { s with blk := b, phase := .rWrCfg }

/-- The device is back in Configuration: READ ends (42_state_machine R205). -/
def afterReadOsr (s : State) : State := finish (commitResults { s with ds := .config })

/-- `resp(true, data)` once `REQ_PENDING` is cleared (42_state_machine R186 to R205). -/
def responseOk (data : List Byte) (s : State) : Result :=
  match s.phase with
  | .idle => .fault .responseNotAdmitted
  | .iWrOsr => onWritten data (afterInitOsr s)
  | .iSettle => .fault .responseNotAdmitted
  | .iRdId => onByte data (fun d => afterIdentity d s)
  | .iWrCtrl1 => onWritten data (afterCtrl1 s)
  | .iWrCtrl2 => onWritten data (afterCtrl2 s)
  | .rWrTrig => onWritten data (afterTrigger s)
  | .rWait => .fault .responseNotAdmitted
  | .rPollRd => onByte data (fun d => afterStatus d s)
  | .rPollWait => .fault .responseNotAdmitted
  | .rBlkRd => onBlock data (fun b => afterResults b s)
  | .rWrCfg => onWritten data (afterReadOsr s)

/-- A failed response: the declared state and `INIT_OK` are given up where an OSR write failed, then the abort
(42_state_machine R183). -/
def busFailure (s : State) : State :=
  match s.phase with
  | .iWrOsr => abort .busFail { s with ds := .off }
  | .rWrTrig => abort .busFail { s with ds := .off, initOk := false }
  | .rWrCfg => abort .busFail { s with ds := .off, initOk := false }
  | .idle | .iSettle | .iRdId | .iWrCtrl1 | .iWrCtrl2 | .rWait | .rPollRd | .rPollWait | .rBlkRd => abort .busFail s

/-- `resp(false, _)` once `REQ_PENDING` is cleared; it comes only in a transaction phase (42_state_machine R183, R207). -/
def responseFail (s : State) : Result :=
  if s.phase.isTransaction then .next (busFailure s) else .fault .responseNotAdmitted

/-- `resp(ok, data)`: discarded while nothing is outstanding; else `REQ_PENDING` is cleared first (42_state_machine R181). -/
def respond (ok : Bool) (data : List Byte) (s : State) : Result :=
  if s.reqPending then
    if ok then responseOk data { s with reqPending := false } else responseFail { s with reqPending := false }
  else .next s

/-- `min(v + 1, 0xFFFF)` (42_state_machine R197). -/
def saturatingIncrement (v : Count) : Count := if v = 0xFFFF#16 then 0xFFFF#16 else v + 1#16

/-- `WAIT_CNT + 1`, which fits in every state a run reaches (60_exceptions R303); at 0xFFFF the value is free (log 9). The targets
it is compared with come from the parameters of the block (60_exceptions R301). -/
def incrementWait (v : Count) : Count := if v = 0xFFFF#16 then Config.waitOverflow else v + 1#16

/-- `tick` in `I_SETTLE` (42_state_machine R187). -/
def tickSettle (s : State) : State :=
  let counted := { s with waitCnt := incrementWait s.waitCnt }
  if counted.waitCnt.toNat = s.settleMs.toNat then issue descRdId { counted with phase := .iRdId } else counted

/-- `tick` in `R_WAIT` (42_state_machine R196). -/
def tickWait (s : State) : State :=
  let counted := { s with waitCnt := incrementWait s.waitCnt }
  if counted.waitCnt.toNat = s.intTimeMs.toNat + s.procMarginMs.toNat then
    issue descRdStatus { counted with pollCnt := 0#16, phase := .rPollRd }
  else counted

/-- `tick` in `R_POLL_WAIT` (42_state_machine R201). -/
def tickPollWait (s : State) : State :=
  let counted := { s with waitCnt := incrementWait s.waitCnt, pollCnt := saturatingIncrement s.pollCnt }
  if counted.waitCnt.toNat = s.pollIntervalMs.toNat then issue descRdStatus { counted with phase := .rPollRd } else counted

/-- `tick` as the block sees it (42_state_machine R182, R204). -/
def blockTick (s : State) : State :=
  match s.phase with
  | .iSettle => tickSettle s
  | .rWait => tickWait s
  | .rPollRd => { s with pollCnt := saturatingIncrement s.pollCnt }
  | .rPollWait => tickPollWait s
  | .idle | .iWrOsr | .iRdId | .iWrCtrl1 | .iWrCtrl2 | .rWrTrig | .rBlkRd | .rWrCfg => s

/-- `reset()`: every register of the block at its reset value; parameters, device and HOST untouched; an outstanding request
is abandoned, and the transport may still carry it out (70_reset_and_hazards R320). -/
def blockReset (s : State) : State :=
  { State.reset with
    devAddr := s.devAddr, sensA := s.sensA, sensB := s.sensB, sensC := s.sensC
    settleMs := s.settleMs, procMarginMs := s.procMarginMs, pollIntervalMs := s.pollIntervalMs, dev := s.dev
    abandoned := if s.reqPending then s.abandoned ++ [s.req] else s.abandoned
    hostRdata := s.hostRdata, offer := s.offer, schedule := s.schedule }

end Sys2Proof.Machine
end

