-- ==== Sys2Proof/Machine/Device.lean ====
section
/-! DEFINITION. The environment: the transport and the sensor, as the contract of 44_device_contract gives them. Whatever
the contract leaves open comes from the event's `Choice`, so nothing constrains it (log 1). -/

namespace Sys2Proof.Machine

/-- The call of the transport a request stands for (44_device_contract R263). -/
inductive TransportCall where
  | writeByte (addr : BitVec 7) (reg data : Byte)
  | readByte (addr : BitVec 7) (reg : Byte)
  | readBlock (addr : BitVec 7) (reg : Byte) (length : Nat)
deriving DecidableEq, Repr

/-- The call a descriptor stands for at a bus address; `KIND` 3 is no call (44_device_contract R263, 30_encoding R106). -/
def transportCall (addr : BitVec 7) (t : Descriptor) : Option TransportCall :=
  if txnKind t = 0b00#2 then some (.writeByte addr (txnReg t) (txnData t))
  else if txnKind t = 0b01#2 then some (.readByte addr (txnReg t))
  else if txnKind t = 0b10#2 then some (.readBlock addr (txnReg t) ((txnLenM1 t).toNat + 1))
  else none

/-- The transport request port: the call that waits for an answer, if any (10_state R39). -/
def State.requestPort (s : State) : Option TransportCall :=
  if s.reqPending then transportCall s.devAddr s.req else none

/-- The device is in a Measurement state. -/
def isMeasMode : DevMode → Bool
  | .off => false
  | .config => false
  | .measIdle => true
  | .measConv => true
  | .measReady => true

/-- The device's mode, control bytes and sample take any value (44_device_contract R260). -/
def havocDevice (h : Havoc) (d : Device) : Device :=
  { d with mode := h.mode, creg1 := h.creg1, creg2 := h.creg2, creg3 := h.creg3, sample := h.sample }

/-- An OSR write, the first matching row (44_device_contract R253). DEDUCED, log 16: a row changes what it names and keeps the rest;
so PD = 1, of which the row says only that `dev` becomes Off, keeps the control bytes and the sample, which the source leaves open
(91_not_in_source N21). What the last row keeps is in log 13. -/
def deviceWriteOsr (v : Byte) (h : Havoc) (d : Device) : Device :=
  if v.getLsbD 6 then { d with mode := .off }
  else if v = Config.osrCfg then { d with mode := .config }
  else if v = Config.osrMeasTrig then { d with mode := .measConv, since := 0 }
  else if v = Config.osrMeasIdle then { d with mode := .measIdle }
  else { d with mode := h.mode, creg1 := h.creg1, creg2 := h.creg2, creg3 := h.creg3 }

/-- A byte write (44_device_contract R253, R258; R260 where the address is no register of the device's map). -/
def deviceWrite (reg v : Byte) (h : Havoc) (d : Device) : Device :=
  if reg = Config.osrAddr then deviceWriteOsr v h d
  else if d.mode = .config ∧ reg = Config.ctrl1Addr then { d with creg1 := v }
  else if d.mode = .config ∧ reg = Config.ctrl2Addr then { d with creg2 := v }
  else if d.mode = .config ∧ reg = Config.ctrl3Addr then { d with creg3 := v }
  else havocDevice h d

/-- The status byte: the new-data bit tells Ready from Converting, every other bit is any value; in Measurement(Idle) all of
it is any value (44_device_contract R255). -/
def deviceStatus (d : Device) (noise : Byte) : Byte :=
  match d.mode with
  | .measReady => noise ||| (1#8 <<< Config.ndataBit)
  | .measConv => noise &&& ~~~(1#8 <<< Config.ndataBit)
  | .off | .config | .measIdle => noise

/-- A byte read returns a byte and changes nothing (44_device_contract R255, R257, R260). -/
def deviceReadByte (reg : Byte) (noise : Byte) (d : Device) : Byte :=
  if isMeasMode d.mode then (if reg = Config.statusAddr then deviceStatus d noise else noise)
  else if d.mode = .config ∧ reg = Config.idAddr then d.idbyte
  else if d.mode = .config ∧ reg = Config.ctrl1Addr then d.creg1
  else if d.mode = .config ∧ reg = Config.ctrl2Addr then d.creg2
  else if d.mode = .config ∧ reg = Config.ctrl3Addr then d.creg3
  else noise

/-- A block read returns the first bytes of the sample when the device is ready, else any bytes, and changes nothing
(44_device_contract R256, R260). -/
def deviceReadBlock (reg : Byte) (length : Nat) (noise : Block) (d : Device) : List Byte :=
  if d.mode = .measReady ∧ reg = Config.tempAddr then (sampleBytes d.sample).take length
  else noise.bytes.take length

/-- The device acts on a call: its next state, and the bytes returned (44_device_contract R252 to R262). -/
def deviceReact (call : TransportCall) (c : Choice) (d : Device) : Device × List Byte :=
  match call with
  | .writeByte _ reg v => (deviceWrite reg v c.havoc d, [])
  | .readByte _ reg => (d, [deviceReadByte reg c.noise.b0 d])
  | .readBlock _ reg length => (d, deviceReadBlock reg length c.noise d)

/-- The device and the bytes after the transport carried out a request: on ok the device acted; on fail it may have acted,
may not have, or may have been left in any state, and no byte comes back (44_device_contract R264, R265). -/
def carryOut (addr : BitVec 7) (t : Descriptor) (c : Choice) (d : Device) : Device × List Byte :=
  match transportCall addr t with
  | none => (d, [])
  | some call =>
    if c.ok then deviceReact call c d
    else match c.failEffect with
      | .acted => ((deviceReact call c d).1, [])
      | .notActed => (d, [])
      | .anyState => (havocDevice c.havoc d, [])

/-- TRANSPORT answers: the outstanding request is carried out and the block takes the response; with none outstanding the
response is discarded (44_device_contract R263 to R265, 42_state_machine R181). -/
def transportAnswer (c : Choice) (s : State) : Result :=
  if s.reqPending then
    respond c.ok (carryOut s.devAddr s.req c s.dev).2 { s with dev := (carryOut s.devAddr s.req c s.dev).1 }
  else .next s

/-- TRANSPORT carries out the `k`th request a reset abandoned; its response, if any, is discarded (70_reset_and_hazards R320). -/
def lateAnswer (k : Nat) (c : Choice) (s : State) : Result :=
  match s.abandoned[k]? with
  | none => .fault .lateNotAdmitted
  | some t => .next { s with dev := (carryOut s.devAddr t c s.dev).1, abandoned := s.abandoned.eraseIdx k }

/-- `dev_ready`: the conversion finishes with any counts, no sooner than the integration time (44_device_contract R254);
an event that comes before that is none of the contract's, and stops the step (DESIGN CHOICE, log 11). -/
def deviceReady (sample : Sample) (s : State) : Result :=
  if s.dev.mode = .measConv ∧ 2 ^ (s.dev.creg1.extractLsb' 0 4).toNat ≤ s.dev.since then
    .next { s with dev := { s.dev with mode := .measReady, sample := sample } }
  else .fault .readyNotAdmitted

/-- A tick as the device sees it: `since` counts while it converts (44_device_contract R254). -/
def deviceTick (d : Device) : Device := if d.mode = .measConv then { d with since := d.since + 1 } else d

/-- TIMEBASE's step: the block's tick and the device's (42_state_machine R182, 44_device_contract R254). -/
def tickAll (s : State) : State := { blockTick s with dev := deviceTick s.dev }

end Sys2Proof.Machine
end

