-- ==== Sys2Proof/Machine/Fetch.lean ====
section
/-! DEFINITION. Which agent moves next, and what it does. The block fetches nothing (20_memory R75): its instructions come to
it, a host access from HOST and a transaction from the sequencer (log 1, log 6). -/

namespace Sys2Proof.Machine

/-- What the next step is. -/
inductive Fetched where
  /-- No agent moves. -/
  | nothing
  /-- An instruction. -/
  | instr (i : Instr)
  /-- A descriptor offered to the arbiter that is none of the seven transactions. -/
  | descriptor (t : Descriptor)
  /-- An event of TRANSPORT, the device, TIMEBASE or RESET. -/
  | event (e : EnvEvent)
  /-- An access with no meaning. -/
  | reject (r : Refusal)
deriving DecidableEq, Repr

/-- The refusal for an access the block does not define (20_memory R65). -/
def refusalOf : AccessError → Refusal
  | .width => .accessWidth
  | .misaligned => .misalignedAccess

/-- What an event is: an access of HOST is decoded, any other event stands for itself. -/
def fetchEvent (e : Event) : Fetched :=
  match e with
  | .host width desc wdata =>
    match decodeAccess width desc wdata with
    | .ok i => .instr i
    | .error r => .reject (refusalOf r)
  | .env e => .event e

/-- What an offered descriptor is (30_encoding R95; 41_register_map_arbiter R155 for one that is not listed). -/
def fetchOffer (t : Descriptor) : Fetched :=
  match decodeTxn t with
  | .ok i => .instr i
  | .error _ => .descriptor t

/-- The next step, and the state it acts on: an offered descriptor goes first, since the sequencer's `issue` is part of the
step that called it (00_scope R13); else the next event of the schedule. -/
def fetch (s : State) : Fetched × State :=
  match s.offer with
  | some t => (fetchOffer t, { s with offer := none })
  | none =>
    match s.schedule with
    | [] => (.nothing, s)
    | e :: rest => (fetchEvent e, { s with schedule := rest })

/-- An event of the environment. -/
def environmentStep (e : EnvEvent) (s : State) : Result :=
  match e with
  | .transport c => transportAnswer c s
  | .late k c => lateAnswer k c s
  | .devReady m => deviceReady m s
  | .tick => .next (tickAll s)
  | .reset => .next (blockReset s)

/-- The state whose next step runs a frame: HOST writes a command word to `CMD` or performs the access, or the sequencer
offers the descriptor. -/
def placeFrame (f : Frame) (s : State) : State :=
  match f with
  | .cmd w => { s with offer := none, schedule := .host 32 0x100#9 w :: s.schedule }
  | .access width desc wdata => { s with offer := none, schedule := .host width desc wdata :: s.schedule }
  | .txn t => { s with offer := some t }

end Sys2Proof.Machine
end

