-- ==== Sys2Proof/Machine/Step.lean ====
section
/-! DEFINITION. One step: exactly one event of one agent (60_exceptions R289), or nothing when no agent moves (00_scope R7). -/

namespace Sys2Proof.Machine

/-- The step. -/
def step (s : State) : Host.Outcome State Fault Refusal :=
  match fetch s with
  | (.nothing, s') => .next s'
  | (.instr i, s') => exec i s'
  | (.descriptor t, s') => .next (issue t s')
  | (.event e, s') => environmentStep e s'
  | (.reject r, _) => .refused r

/-- The state whose very next step runs the instruction whose bits are `w`, numbered as the opcode table numbers them. -/
def State.withFetchWord (s : State) (nbits w : Nat) : State := placeFrame (frameOfTableWord nbits w) s

end Sys2Proof.Machine
end

