-- ==== Sys2Proof/Safety.lean ====
section
/-! DEFINITION. What a safe run is, in the terms the statements use: the events the contract admits, the invariant every step
keeps, and the agreement of the declared state with the device. -/

namespace Sys2Proof.Machine

/-- The contract admits the event in this state: an access is aligned and 32 bits wide (20_memory R65), a late answer is for an
abandoned request (70_reset_and_hazards R320), and a conversion ends no sooner than its integration time (44 R254). -/
def Event.admitted (e : Event) (s : State) : Prop :=
  match e with
  | .host width desc _ => width = 32 ∧ offsetAligned (desc.extractLsb' 0 8) = true
  | .env (.late k _) => k < s.abandoned.length
  | .env (.devReady _) => s.dev.mode = .measConv ∧ 2 ^ (s.dev.creg1.extractLsb' 0 4).toNat ≤ s.dev.since
  | .env (.transport _) => True
  | .env .tick => True
  | .env .reset => True

/-- The declared state a phase works under (10_state R40, 42_state_machine R210): Configuration from the settle on, Measurement
from the trigger on; Ready in the block read unless the poll timed out. -/
def declaredFits (p : Phase) (degraded : Bool) (ds : DState) : Prop :=
  match p with
  | .iSettle | .iRdId | .iWrCtrl1 | .iWrCtrl2 => ds = .config
  | .rWait | .rPollRd | .rPollWait => ds = .measConv
  | .rBlkRd | .rWrCfg => ds = if degraded then .measConv else .measReady
  | .idle | .iWrOsr | .rWrTrig => ds ≠ .measIdle

/-- Every result register and saturation bit is 0. -/
def resultsZero (s : State) : Prop :=
  s.rawTemp = 0#16 ∧ s.rawA = 0#16 ∧ s.rawB = 0#16 ∧ s.rawC = 0#16
    ∧ s.irrA = 0#32 ∧ s.irrB = 0#32 ∧ s.irrC = 0#32 ∧ s.temp = 0#32
    ∧ s.satA = false ∧ s.satB = false ∧ s.satC = false

/-- The parameters give every timed phase a target that a 16-bit count can reach from 0, for every time code: what 10_state R37
rests on. The defaults do, and so do the values of 60_exceptions R301. -/
def timingFits (s : State) : Prop :=
  0 < s.settleMs.toNat ∧ s.procMarginMs.toNat ≤ 0x7FFF ∧ 0 < s.pollIntervalMs.toNat

/-- The largest target `WAIT_CNT` can have; with the default parameters it is 32788 (60_exceptions R303). -/
def waitCeiling (s : State) : Nat := max s.settleMs.toNat (max (2 ^ 15 + s.procMarginMs.toNat) s.pollIntervalMs.toNat)

/-- `WAIT_CNT` is below the target of a timed phase, and elsewhere no more than the largest (10_state R37). -/
def waitBounded (s : State) : Prop :=
  match s.phase with
  | .iSettle => s.waitCnt.toNat < s.settleMs.toNat
  | .rWait => s.waitCnt.toNat < s.intTimeMs.toNat + s.procMarginMs.toNat
  | .rPollWait => s.waitCnt.toNat < s.pollIntervalMs.toNat ∧ s.pollCnt.toNat < Config.pollBudgetMs + s.waitCnt.toNat
  | .idle | .iWrOsr | .iRdId | .iWrCtrl1 | .iWrCtrl2 | .rWrTrig | .rPollRd | .rBlkRd | .rWrCfg =>
    s.waitCnt.toNat ≤ waitCeiling s

/-- The invariant of the block: the items of 10_state R40, and what they rest on. -/
structure Inv (s : State) : Prop where
  /-- `BUSY` covers the command in progress. -/
  busy_phase : s.busy = true ↔ s.phase ≠ .idle
  /-- A command in progress has not ended. -/
  busy_done : s.busy = true → s.done = false
  /-- A transaction phase, and no other, has a request outstanding. -/
  pending_phase : s.reqPending = s.phase.isTransaction
  /-- The outstanding request is the one the phase waits for. -/
  pending_request : s.reqPending = true → s.phase.request s.gainCode s.timeCode = some s.req
  /-- The factors are those of the codes. -/
  factors : s.initOk = true → s.gainFactor = gainFactorOf s.gainCode ∧ s.intTimeMs = intTimeOf s.timeCode
  /-- A result needs an initialization. -/
  valid_initOk : s.initOk = false → s.valid = false
  /-- A result stands only in an idle block that ended its READ in Configuration. -/
  valid_idle : s.valid = true → s.phase = .idle ∧ s.ds = .config ∧ (s.err = .none ∨ s.err = .illegalCmd)
  /-- Without a result every result register reads 0. -/
  results_zero : s.valid = false → resultsZero s
  /-- The declared state is the one the phase works under. -/
  declared : declaredFits s.phase s.degraded s.ds
  /-- A command in progress is degraded only after its poll loop. -/
  degraded_phase : s.degraded = true → s.phase = .idle ∨ s.phase = .rBlkRd ∨ s.phase = .rWrCfg
  /-- The arbiter has refused nothing. -/
  no_violation : s.err ≠ .arbViolation
  /-- INIT runs without `INIT_OK`. -/
  init_phase : s.phase.isInit = true → s.initOk = false
  /-- READ runs with `INIT_OK`. -/
  read_phase : s.phase.isRead = true → s.initOk = true
  /-- A command in progress shows no error. -/
  busy_clean : s.busy = true → s.err = .none
  /-- `FAIL_PHASE` names the transaction phase that failed, and nothing else sets it. -/
  fail_phase : if s.err = .busFail then s.failPhase.isTransaction = true else s.failPhase = .idle
  /-- The parameters of the waits fit the counters. -/
  timing_fits : timingFits s
  /-- The tick counters keep below their targets. -/
  wait_bounded : waitBounded s
  /-- The sequencer has no offer of its own open. -/
  no_offer : s.offer = none

/-- The device is what the phase takes it for, while no request is abandoned (44_device_contract R259, R269, R270;
42_state_machine R210). Outside a command, after a trigger not yet answered, and after a timeout, nothing is claimed. -/
def deviceAgrees (s : State) : Prop :=
  match s.phase with
  | .iSettle | .iRdId | .iWrCtrl1 => s.dev.mode = .config
  | .iWrCtrl2 => s.dev.mode = .config ∧ s.dev.creg1 = s.gainCode ++ s.timeCode
  | .rWait | .rPollRd | .rPollWait => s.dev.mode = .measConv ∨ s.dev.mode = .measReady
  | .rBlkRd => s.degraded = false → s.dev.mode = .measReady
  | .rWrCfg => s.degraded = false → s.dev.mode = .measReady ∧ decodeBlock s.blk = s.dev.sample
  | .idle | .iWrOsr | .rWrTrig => True

/-- One round of the poll loop with a status byte `d`: the response, then a poll interval of ticks (42_state_machine R202). -/
def pollRound (d : Byte) (s : State) : State :=
  match respond true [d] s with
  | .next t => blockTick^[s.pollIntervalMs.toNat] t
  | .fault _ => s
  | .refused _ => s

/-- The results of a READ: raw counts, irradiances, saturation bits, temperature (10_state R27 to R29). -/
def State.results (s : State) : List Word × List Bool :=
  ([s.raw0Word, s.raw1Word, s.irrA, s.irrB, s.irrC, s.temp], [s.satA, s.satB, s.satC, s.valid])

end Sys2Proof.Machine
end

