-- ==== Sys2Proof/Certificates/Slice0/Obligations.lean ====
section
/-! DEFINITION. The statements for the provers. -/

open Sys2Proof Sys2Proof.Machine

/-! ### The command words -/

/-- R125: NOP changes nothing, in every phase, busy or idle, nor does a word written to `CMD` whose `OP` is 0. -/
def Obligations.NopChangesNothing : Prop :=
  ∀ s : State, exec .nop s = .next s ∧ ∀ w : Word, w.extractLsb' 0 4 = 0#4 → exec (.hwrCmd w) s = .next s

/-- R124: while `BUSY`, every command but NOP sets `OVR` and nothing else, as a word written to `CMD` and as the command itself. -/
def Obligations.BusyCommandIsDropped : Prop :=
  ∀ s : State, s.busy = true →
    (∀ w : Word, w.extractLsb' 0 4 ≠ 0#4 → exec (.hwrCmd w) s = .next { s with ovr := true })
    ∧ (∀ g t : Code, exec (.init g t) s = .next { s with ovr := true })
    ∧ exec .read s = .next { s with ovr := true }
    ∧ exec .rsv3 s = .next { s with ovr := true }
    ∧ (∀ op : BitVec 2, exec (.rsv4to7 op) s = .next { s with ovr := true })
    ∧ (∀ op : BitVec 3, exec (.rsv8to15 op) s = .next { s with ovr := true })

/-- R126, R133, R185: INIT in an idle block is accepted whatever `INIT_OK` and `DS` are; it latches both codes, clears the flags
and results, and issues WR_OSR_CFG. Every field not named keeps its value, `FACTORS` among them. A word written to `CMD` with
`OP` 1 is INIT with the codes of its bits 11 to 8 and 15 to 12. -/
def Obligations.InitIsAccepted : Prop :=
  ∀ (s : State) (g t : Code), s.busy = false →
    (∀ w : Word, w.extractLsb' 0 4 = 1#4 → w.extractLsb' 8 4 = g → w.extractLsb' 12 4 = t →
      exec (.hwrCmd w) s = exec (.init g t) s)
    ∧ exec (.init g t) s = .next { s with
      busy := true, done := false, err := .none, failPhase := .idle,
      valid := false, degraded := false, satA := false, satB := false, satC := false,
      rawTemp := 0#16, rawA := 0#16, rawB := 0#16, rawC := 0#16,
      irrA := 0#32, irrB := 0#32, irrC := 0#32, temp := 0#32,
      initOk := false, idWarn := false, gainCode := g, timeCode := t,
      phase := .iWrOsr, req := 0x000002#24, reqPending := true }

/-- R127, R129: in an idle block READ without `INIT_OK` is rejected with `NOT_INIT`, and each of the thirteen reserved commands
with `ILLEGAL_CMD`, also as a word written to `CMD`; nothing but `DONE`, `ERR` and `FAIL_PHASE` changes. -/
def Obligations.RejectedCommandRecordsItsError : Prop :=
  ∀ s : State, s.busy = false →
    (s.initOk = false → exec .read s = .next { s with done := true, err := .notInit, failPhase := .idle }
      ∧ ∀ w : Word, w.extractLsb' 0 4 = 2#4 →
        exec (.hwrCmd w) s = .next { s with done := true, err := .notInit, failPhase := .idle })
    ∧ (∀ w : Word, 3 ≤ (w.extractLsb' 0 4).toNat →
        exec (.hwrCmd w) s = .next { s with done := true, err := .illegalCmd, failPhase := .idle })
    ∧ exec .rsv3 s = .next { s with done := true, err := .illegalCmd, failPhase := .idle }
    ∧ (∀ op : BitVec 2, exec (.rsv4to7 op) s = .next { s with done := true, err := .illegalCmd, failPhase := .idle })
    ∧ (∀ op : BitVec 3, exec (.rsv8to15 op) s = .next { s with done := true, err := .illegalCmd, failPhase := .idle })

/-- R128, R133, R193: READ in an idle block with `INIT_OK` is accepted whatever `DS` is; it clears the flags and results and issues
WR_OSR_TRIG. `INIT_OK`, `ID_WARN`, the codes and the factors keep their values. A word written to `CMD` with `OP` 2 is READ. -/
def Obligations.ReadIsAccepted : Prop :=
  ∀ s : State, s.busy = false → s.initOk = true →
    (∀ w : Word, w.extractLsb' 0 4 = 2#4 → exec (.hwrCmd w) s = exec .read s)
    ∧ exec .read s = .next { s with
      busy := true, done := false, err := .none, failPhase := .idle,
      valid := false, degraded := false, satA := false, satB := false, satC := false,
      rawTemp := 0#16, rawA := 0#16, rawB := 0#16, rawC := 0#16,
      irrA := 0#32, irrB := 0#32, irrC := 0#32, temp := 0#32,
      phase := .rWrTrig, req := 0x000083#24, reqPending := true }

/-- R123, R91: a write of a word to `CMD` is the command the word decodes to, in every state; it answers a next state. -/
def Obligations.CommandWordRunsItsCommand : Prop :=
  ∀ (s : State) (w : Word), exec (.hwrCmd w) s = exec (decodeCmd w) s ∧ ∃ t, exec (.hwrCmd w) s = .next t

/-- R130: bits 31 to 16 and 7 to 4 of a command word are not read, and bits 15 to 8 only by INIT; the rule's two examples. -/
def Obligations.IgnoredCommandBitsHaveNoEffect : Prop :=
  (∀ (s : State) (v w : Word), v.extractLsb' 0 4 = w.extractLsb' 0 4 →
    (v.extractLsb' 0 4 = 1#4 → v.extractLsb' 8 8 = w.extractLsb' 8 8) →
    exec (.hwrCmd v) s = exec (.hwrCmd w) s)
  ∧ decodeCmd 0xFFFF0002#32 = .read ∧ decodeCmd 0x00FF00F0#32 = .nop

/-! ### The host accesses -/

/-- R131: a write to a read-only register or to an offset that holds none changes nothing. -/
def Obligations.OtherWritesChangeNothing : Prop :=
  ∀ (s : State) (off : Byte) (w : Word), off.toNat % 4 = 0 → 0x08 ≤ off.toNat →
    exec (.hwrOther off w) s = .next s

/-- R132: a write to `STATUS` clears `DONE` where bit 1 is 1 and `OVR` where bit 6 is 1, and changes no other field. -/
def Obligations.StatusWriteClearsDoneAndOverrun : Prop :=
  ∀ (s : State) (w : Word),
    exec (.hwrStatus w) s = .next { s with
      done := s.done && !w.getLsbD 1,
      ovr := s.ovr && !w.getLsbD 6 }

/-- R121: a read gives HOST the word of the table and changes nothing of the block. That the word stands in `hostRdata` is the
model's choice (log 5). -/
def Obligations.HostReadReturnsTheRegister : Prop :=
  ∀ (s : State) (status : Word),
    status = 0#4 ++ s.failPhase.code ++ s.phase.code ++ BitVec.ofBool s.reqPending ++ s.ds.code ++ 0#2
      ++ BitVec.ofBool s.satC ++ BitVec.ofBool s.satB ++ BitVec.ofBool s.satA ++ s.err.code ++ 0#1
      ++ BitVec.ofBool s.ovr ++ BitVec.ofBool s.idWarn ++ BitVec.ofBool s.degraded ++ BitVec.ofBool s.valid
      ++ BitVec.ofBool s.initOk ++ BitVec.ofBool s.done ++ BitVec.ofBool s.busy →
    exec (.hrd 0x00#8) s = .next { s with hostRdata := 0#32 }
    ∧ exec (.hrd 0x04#8) s = .next { s with hostRdata := status }
    ∧ exec (.hrd 0x08#8) s = .next { s with hostRdata := 0#16 ++ s.devId ++ s.timeCode ++ s.gainCode }
    ∧ exec (.hrd 0x0C#8) s = .next { s with hostRdata := s.intTimeMs ++ s.gainFactor }
    ∧ exec (.hrd 0x10#8) s = .next { s with hostRdata := s.rawA ++ s.rawTemp }
    ∧ exec (.hrd 0x14#8) s = .next { s with hostRdata := s.rawC ++ s.rawB }
    ∧ exec (.hrd 0x18#8) s = .next { s with hostRdata := s.irrA }
    ∧ exec (.hrd 0x1C#8) s = .next { s with hostRdata := s.irrB }
    ∧ exec (.hrd 0x20#8) s = .next { s with hostRdata := s.irrC }
    ∧ exec (.hrd 0x24#8) s = .next { s with hostRdata := s.temp }
    ∧ (∀ off : Byte, off.toNat % 4 = 0 → 0x28 ≤ off.toNat → exec (.hrd off) s = .next { s with hostRdata := 0#32 })

/-- R24, R33, R34, R36: each field of `STATUS` stands in its bits with its code, the reserved bits read 0, and the codes are the
listed ones. -/
def Obligations.StatusFieldsStandInTheirBits : Prop :=
  [ErrCode.none, .illegalCmd, .notInit, .busFail, .arbViolation].map ErrCode.code = [0, 1, 2, 3, 4]
  ∧ [DState.off, .config, .measIdle, .measConv, .measReady].map DState.code = [0, 1, 2, 3, 4]
  ∧ [Phase.idle, .iWrOsr, .iSettle, .iRdId, .iWrCtrl1, .iWrCtrl2, .rWrTrig, .rWait, .rPollRd, .rPollWait, .rBlkRd, .rWrCfg].map
      Phase.code = [0, 1, 2, 3, 4, 5, 6, 7, 8, 9, 10, 11]
  ∧ ∀ s : State,
    s.statusWord.getLsbD 0 = s.busy ∧ s.statusWord.getLsbD 1 = s.done ∧ s.statusWord.getLsbD 2 = s.initOk
    ∧ s.statusWord.getLsbD 3 = s.valid ∧ s.statusWord.getLsbD 4 = s.degraded ∧ s.statusWord.getLsbD 5 = s.idWarn
    ∧ s.statusWord.getLsbD 6 = s.ovr ∧ s.statusWord.getLsbD 7 = false
    ∧ s.statusWord.extractLsb' 8 3 = s.err.code
    ∧ s.statusWord.getLsbD 11 = s.satA ∧ s.statusWord.getLsbD 12 = s.satB ∧ s.statusWord.getLsbD 13 = s.satC
    ∧ s.statusWord.extractLsb' 14 2 = 0#2
    ∧ s.statusWord.extractLsb' 16 3 = s.ds.code
    ∧ s.statusWord.getLsbD 19 = s.reqPending
    ∧ s.statusWord.extractLsb' 20 4 = s.phase.code
    ∧ s.statusWord.extractLsb' 24 4 = s.failPhase.code
    ∧ s.statusWord.extractLsb' 28 4 = 0#4

/-- R65: an access whose offset is no multiple of 4, or whose width is not 32 bits, is refused by name. -/
def Obligations.UndefinedAccessIsRefused : Prop :=
  (∀ (s : State) (off : Byte) (w : Word), off.toNat % 4 ≠ 0 →
    exec (.hrd off) s = .refused .misalignedAccess ∧ exec (.hwrOther off w) s = .refused .misalignedAccess)
  ∧ (∀ (s : State) (width : Nat) (desc : BitVec 9) (w : Word) (rest : List Event),
      s.offer = none → s.schedule = .host width desc w :: rest →
      (width ≠ 32 → step s = .refused .accessWidth)
      ∧ (width = 32 → desc.toNat % 4 ≠ 0 → step s = .refused .misalignedAccess))

/-! ### The step -/

/-- R120, R289: when the next event is a host access that decodes to `i`, the step is `exec i`, and the event is used up. The
schedule is the model's own (log 1). -/
def Obligations.StepRunsTheHostAccess : Prop :=
  ∀ (s : State) (width : Nat) (desc : BitVec 9) (w : Word) (rest : List Event) (i : Instr),
    s.offer = none → s.schedule = .host width desc w :: rest → decode (.access width desc w) = .ok i →
    step s = exec i { s with schedule := rest }

/-- R160: a descriptor the sequencer offers is judged by the arbiter: as the transaction it decodes to, or by `issue` where
it is none of the seven. The offer as a step by itself is the model's own (log 6). -/
def Obligations.StepRunsTheOfferedTransaction : Prop :=
  ∀ (s : State) (d : Descriptor), s.offer = some d →
    (∀ i, decode (.txn d) = .ok i → step s = exec i { s with offer := none })
    ∧ (∀ e, decode (.txn d) = .error e → step s = .next (issue d { s with offer := none }))

/-- R7, R289, R320: each event of TRANSPORT, TIMEBASE and RESET is handled alone; an abandoned request carried out late changes
nothing of the block; with no event left nothing moves, since the block has no step of its own. The schedule is the model's own
(log 1), and so is the list of abandoned requests (log 4). -/
def Obligations.StepHandlesOneEvent : Prop :=
  ∀ (s : State) (rest : List Event), s.offer = none →
    (∀ c, s.schedule = .env (.transport c) :: rest → s.reqPending = true →
      step s = respond c.ok (carryOut s.devAddr s.req c s.dev).2
        { s with dev := (carryOut s.devAddr s.req c s.dev).1, schedule := rest })
    ∧ (s.schedule = .env .tick :: rest →
      step s = .next { blockTick { s with schedule := rest } with dev := deviceTick s.dev })
    ∧ (∀ k c t, s.schedule = .env (.late k c) :: rest → s.abandoned[k]? = some t →
      step s = .next { s with
        dev := (carryOut s.devAddr t c s.dev).1, abandoned := s.abandoned.eraseIdx k, schedule := rest })
    ∧ (s.schedule = .env .reset :: rest → step s = .next (blockReset { s with schedule := rest }))
    ∧ (s.schedule = [] → step s = .next s)

/-- The word the host places runs as the very next instruction, in each of the three formats (the model's convention, log 1 and
log 6). -/
def Obligations.PlacedWordRunsNext : Prop :=
  ∀ (s : State) (nbits w : Nat) (i : Instr), decodeTableWord nbits w = some i →
    step (s.withFetchWord nbits w) = exec i { s with offer := none }

/-! ### The encodings -/

/-- R90 to R95: decoding the encoding of a well-formed instruction gives it back, with every operand. -/
def Obligations.DecodeInvertsEncode : Prop :=
  ∀ i : Instr, i.wf = true → decode (encode i) = .ok i

/-- R91, R92, R95: whatever decodes is well-formed; a descriptor and a write that decode are the encoding of what they decode
to, and so is a read up to its unused written word. -/
def Obligations.DecodedFrameIsTheEncoding : Prop :=
  (∀ (f : Frame) (i : Instr), decode f = .ok i → i.wf = true)
  ∧ (∀ (d : Descriptor) (i : Instr), decode (.txn d) = .ok i → encode i = .txn d)
  ∧ (∀ (width : Nat) (desc : BitVec 9) (w : Word) (i : Instr), decode (.access width desc w) = .ok i →
      encode i = .access 32 desc (if desc.getLsbD 8 then w else 0#32))

/-- R91: every 32-bit word is one of NOP, INIT, READ and reserved, by `OP` alone; INIT takes its codes from bits 11 to 8 and
15 to 12. -/
def Obligations.EveryCommandWordDecodes : Prop :=
  ∀ w : Word,
    (w.toNat % 16 = 0 → decodeCmd w = .nop)
    ∧ (w.toNat % 16 = 1 → decodeCmd w = .init (w.extractLsb' 8 4) (w.extractLsb' 12 4))
    ∧ (w.toNat % 16 = 2 → decodeCmd w = .read)
    ∧ (w.toNat % 16 = 3 → decodeCmd w = .rsv3)
    ∧ (4 ≤ w.toNat % 16 → w.toNat % 16 ≤ 7 → decodeCmd w = .rsv4to7 (w.extractLsb' 0 2))
    ∧ (8 ≤ w.toNat % 16 → decodeCmd w = .rsv8to15 (w.extractLsb' 0 3))

/-- R91, R92, R95: words written out from the spec's tables decode to what they stand for. -/
def Obligations.WrittenOutWordsDecode : Prop :=
  decode (.cmd 0x00007701#32) = .ok (.init 7#4 7#4)
  ∧ decode (.cmd 0x00006301#32) = .ok (.init 3#4 6#4)
  ∧ decode (.access 32 0x104#9 0x42#32) = .ok (.hwrStatus 0x42#32)
  ∧ decode (.access 32 0x024#9 0#32) = .ok (.hrd 0x24#8)
  ∧ decode (.txn 0x000636#24) = .ok (.wrCtrl1 3#4 6#4)
  ∧ decode (.txn 0xB80100#24) = .ok .rdResults

/-- R95: the seven descriptors, and how a descriptor is put together from its fields. -/
def Obligations.DescriptorsAreTheListedOnes : Prop :=
  encode .wrOsrCfg = .txn 0x000002#24 ∧ encode .wrOsrTrig = .txn 0x000083#24 ∧ encode .rdId = .txn 0x400200#24
  ∧ (∀ g t : Code, encode (.wrCtrl1 g t) = .txn (0x000600#24 ||| g.setWidth 24 <<< 4 ||| t.setWidth 24))
  ∧ encode .wrCtrl2 = .txn 0x000840#24 ∧ encode .rdStatus = .txn 0x400000#24 ∧ encode .rdResults = .txn 0xB80100#24
  ∧ (∀ (kind : BitVec 2) (len : BitVec 3) (reg data : Byte), descriptor kind len reg data =
      (kind.setWidth 24 <<< 22 ||| len.setWidth 24 <<< 19 ||| reg.setWidth 24 <<< 8 ||| data.setWidth 24))

/-! ### The arbiter and the transactions -/

/-- R155: the arbiter admits a descriptor exactly where the spec's predicate does. -/
def Obligations.ArbiterAdmitsExactlyTheListed : Prop :=
  ∀ (ds : DState) (t : Descriptor), txnValid ds t = true ↔
    t.extractLsb' 22 2 ≠ 0b11#2 ∧ t.extractLsb' 16 3 = 0#3
    ∧ (t.extractLsb' 22 2 ≠ 0b10#2 → t.extractLsb' 19 3 = 0#3)
    ∧ (t.extractLsb' 22 2 ≠ 0b00#2 → t.extractLsb' 0 8 = 0#8)
    ∧ ((t.extractLsb' 22 2 = 0b00#2 ∧ t.extractLsb' 8 8 = 0x00#8)
      ∨ (ds = .config ∧ t.extractLsb' 22 2 = 0b01#2
          ∧ t.extractLsb' 8 8 ∈ [0x00#8, 0x02#8, 0x06#8, 0x08#8, 0x09#8])
      ∨ (ds = .config ∧ t.extractLsb' 22 2 = 0b00#2 ∧ t.extractLsb' 8 8 ∈ [0x06#8, 0x08#8, 0x09#8])
      ∨ (ds ∈ [DState.measIdle, .measConv, .measReady] ∧ t.extractLsb' 22 2 = 0b01#2 ∧ t.extractLsb' 8 8 = 0x00#8)
      ∨ (ds ∈ [DState.measIdle, .measConv, .measReady] ∧ t.extractLsb' 22 2 = 0b10#2 ∧ t.extractLsb' 8 8 = 0x01#8))

/-- R157, R160 to R167: each transaction, in every declared state that admits it, is placed on the transport port, and
nothing else changes. -/
def Obligations.AdmittedTransactionIsPlaced : Prop :=
  ∀ s : State,
    exec .wrOsrCfg s = .next { s with req := 0x000002#24, reqPending := true }
    ∧ exec .wrOsrTrig s = .next { s with req := 0x000083#24, reqPending := true }
    ∧ (s.ds = .config → exec .rdId s = .next { s with req := 0x400200#24, reqPending := true })
    ∧ (s.ds = .config → ∀ g t : Code, exec (.wrCtrl1 g t) s =
        .next { s with req := 0x000600#24 ||| g.setWidth 24 <<< 4 ||| t.setWidth 24, reqPending := true })
    ∧ (s.ds = .config → exec .wrCtrl2 s = .next { s with req := 0x000840#24, reqPending := true })
    ∧ (s.ds ≠ .off → exec .rdStatus s = .next { s with req := 0x400000#24, reqPending := true })
    ∧ (s.ds ∈ [DState.measIdle, .measConv, .measReady] →
        exec .rdResults s = .next { s with req := 0xB80100#24, reqPending := true })

/-- R157, R160, R284, R291: in every other declared state the transaction is not sent, and the command ends by `abort_arb`. -/
def Obligations.RefusedTransactionAborts : Prop :=
  ∀ (s : State) (i : Instr),
    (s.ds ≠ .config ∧ (i = .rdId ∨ (∃ g t, i = .wrCtrl1 g t) ∨ i = .wrCtrl2)
      ∨ s.ds = .off ∧ i = .rdStatus
      ∨ (s.ds = .off ∨ s.ds = .config) ∧ i = .rdResults) →
    exec i s = .next { s with
      err := .arbViolation, failPhase := s.phase, initOk := false, reqPending := false,
      busy := false, done := true, phase := .idle }

/-- R252: no instruction reads or changes the device: running one beside another device gives the same block, and that
device as it was. -/
def Obligations.InstructionsDoNotTouchTheDevice : Prop :=
  ∀ (s : State) (i : Instr) (d : Device),
    (∀ t, exec i s = .next t → t.dev = s.dev ∧ exec i { s with dev := d } = .next { t with dev := d })
    ∧ (∀ r, exec i s = .refused r → exec i { s with dev := d } = .refused r)
    ∧ (∀ r, exec i s ≠ .fault r)

/-! ### The sequencer -/

/-- R181: a response while nothing is outstanding changes nothing, also when it is the next event. -/
def Obligations.UnaskedResponseIsDiscarded : Prop :=
  ∀ s : State, s.reqPending = false →
    (∀ (ok : Bool) (data : List Byte), respond ok data s = .next s)
    ∧ (∀ c rest, s.offer = none → s.schedule = .env (.transport c) :: rest → step s = .next { s with schedule := rest })

/-- R186, R194: the OSR writes that begin INIT and READ, answered ok, declare the state and start the wait. -/
def Obligations.FirstOsrResponseStartsTheWait : Prop :=
  ∀ s : State, s.reqPending = true →
    (s.phase = .iWrOsr → respond true [] s =
      .next { s with reqPending := false, ds := .config, waitCnt := 0#16, phase := .iSettle })
    ∧ (s.phase = .rWrTrig → respond true [] s =
      .next { s with reqPending := false, ds := .measConv, waitCnt := 0#16, phase := .rWait })

/-- R188, R189, R191: the identity byte is stored, a wrong upper nibble sets `ID_WARN` and nothing else; CTRL1 then CTRL2 are
written; after CTRL2 the factors are stored and INIT ends. The phases hold `DS` = `CONFIG` (`Inv.declared`). -/
def Obligations.InitResponsesWriteTheControlRegisters : Prop :=
  ∀ s : State, s.reqPending = true → s.ds = .config →
    (s.phase = .iRdId → ∀ d : Byte, respond true [d] s = .next { s with
      devId := d,
      idWarn := s.idWarn || decide (d.extractLsb' 4 4 ≠ 0x2#4),
      phase := .iWrCtrl1,
      req := 0x000600#24 ||| s.gainCode.setWidth 24 <<< 4 ||| s.timeCode.setWidth 24 })
    ∧ (s.phase = .iWrCtrl1 → respond true [] s = .next { s with phase := .iWrCtrl2, req := 0x000840#24 })
    ∧ (s.phase = .iWrCtrl2 → respond true [] s = .next { s with
      reqPending := false, gainFactor := 1#16 <<< s.gainCode.toNat, intTimeMs := 1#16 <<< s.timeCode.toNat,
      initOk := true, busy := false, done := true, phase := .idle })

/-- R198, R199, R200: the new-data bit is judged first, then the budget. A timeout is in `MEAS_CONV` (`Inv.declared`). -/
def Obligations.StatusResponseDecides : Prop :=
  ∀ (s : State) (d : Byte), s.reqPending = true → s.phase = .rPollRd →
    (d.getLsbD 3 = true → respond true [d] s =
      .next { s with ds := .measReady, phase := .rBlkRd, req := 0xB80100#24 })
    ∧ (d.getLsbD 3 = false → s.pollCnt.toNat < 500 → respond true [d] s =
      .next { s with reqPending := false, waitCnt := 0#16, phase := .rPollWait })
    ∧ (d.getLsbD 3 = false → 500 ≤ s.pollCnt.toNat → s.ds = .measConv → respond true [d] s =
      .next { s with degraded := true, phase := .rBlkRd, req := 0xB80100#24 })

/-- R203: the eight bytes are held, and the return to Configuration is issued. -/
def Obligations.ResultResponseHoldsTheBytes : Prop :=
  ∀ (s : State) (b : Block), s.reqPending = true → s.phase = .rBlkRd →
    respond true [b.b0, b.b1, b.b2, b.b3, b.b4, b.b5, b.b6, b.b7] s =
      .next { s with blk := b, phase := .rWrCfg, req := 0x000002#24 }

/-- R205: the last ok commits every result in one step and ends READ; the conversions are those of R220, R224 and R228. -/
def Obligations.ReadEndCommitsTheSample : Prop :=
  ∀ s : State, s.reqPending = true → s.phase = .rWrCfg →
    respond true [] s = .next { s with
      reqPending := false, ds := .config,
      rawTemp := s.blk.b1 ++ s.blk.b0, rawA := s.blk.b3 ++ s.blk.b2,
      rawB := s.blk.b5 ++ s.blk.b4, rawC := s.blk.b7 ++ s.blk.b6,
      irrA := (irradiance (s.blk.b3 ++ s.blk.b2) s.sensA s.gainFactor s.intTimeMs).1,
      satA := (irradiance (s.blk.b3 ++ s.blk.b2) s.sensA s.gainFactor s.intTimeMs).2,
      irrB := (irradiance (s.blk.b5 ++ s.blk.b4) s.sensB s.gainFactor s.intTimeMs).1,
      satB := (irradiance (s.blk.b5 ++ s.blk.b4) s.sensB s.gainFactor s.intTimeMs).2,
      irrC := (irradiance (s.blk.b7 ++ s.blk.b6) s.sensC s.gainFactor s.intTimeMs).1,
      satC := (irradiance (s.blk.b7 ++ s.blk.b6) s.sensC s.gainFactor s.intTimeMs).2,
      temp := temperature (s.blk.b1 ++ s.blk.b0),
      valid := true, busy := false, done := true, phase := .idle }

/-- R183, R290: a failed response in any transaction phase ends the command with `BUS_FAIL` and the phase; a failed OSR write
gives up the declared state, and in READ `INIT_OK` too. -/
def Obligations.BusFailureAborts : Prop :=
  ∀ (s : State) (data : List Byte), s.reqPending = true → s.phase.isTransaction = true →
    respond false data s = .next { s with
      reqPending := false,
      ds := if s.phase ∈ [Phase.iWrOsr, .rWrTrig, .rWrCfg] then .off else s.ds,
      initOk := if s.phase ∈ [Phase.rWrTrig, .rWrCfg] then false else s.initOk,
      err := .busFail, failPhase := s.phase, busy := false, done := true, phase := .idle }

/-- R187, R196, R197, R201, R204: what a tick does in each phase, with the block's parameters `SETTLE_MS`, `PROC_MARGIN_MS` and
`POLL_INTERVAL_MS`; where nothing counts it changes nothing. The wait of a phase ends by a request that its declared state admits
(`Inv.declared`). `WAIT_CNT` at 0xFFFF, where the next count would not fit, is shut out (R303; `Inv.wait_bounded`; log 9). -/
def Obligations.TickDoesWhatThePhaseSays : Prop :=
  ∀ s : State, s.waitCnt ≠ 0xFFFF#16 →
    (s.phase ∈ [Phase.idle, .iWrOsr, .iRdId, .iWrCtrl1, .iWrCtrl2, .rWrTrig, .rBlkRd, .rWrCfg] → blockTick s = s)
    ∧ (s.phase = .iSettle → s.waitCnt + 1#16 ≠ s.settleMs → blockTick s = { s with waitCnt := s.waitCnt + 1#16 })
    ∧ (s.phase = .iSettle → s.ds = .config → s.waitCnt + 1#16 = s.settleMs → blockTick s =
      { s with waitCnt := s.settleMs, phase := .iRdId, req := 0x400200#24, reqPending := true })
    ∧ (s.phase = .rWait → (s.waitCnt + 1#16).toNat ≠ s.intTimeMs.toNat + s.procMarginMs.toNat →
      blockTick s = { s with waitCnt := s.waitCnt + 1#16 })
    ∧ (s.phase = .rWait → s.ds = .measConv → (s.waitCnt + 1#16).toNat = s.intTimeMs.toNat + s.procMarginMs.toNat →
      blockTick s =
        { s with waitCnt := s.waitCnt + 1#16, pollCnt := 0#16, phase := .rPollRd, req := 0x400000#24, reqPending := true })
    ∧ (s.phase = .rPollRd → blockTick s = { s with pollCnt := BitVec.ofNat 16 (min (s.pollCnt.toNat + 1) 0xFFFF) })
    ∧ (s.phase = .rPollWait → s.waitCnt + 1#16 ≠ s.pollIntervalMs → blockTick s =
      { s with waitCnt := s.waitCnt + 1#16, pollCnt := BitVec.ofNat 16 (min (s.pollCnt.toNat + 1) 0xFFFF) })
    ∧ (s.phase = .rPollWait → s.ds = .measConv → s.waitCnt + 1#16 = s.pollIntervalMs → blockTick s =
      { s with waitCnt := s.pollIntervalMs, pollCnt := BitVec.ofNat 16 (min (s.pollCnt.toNat + 1) 0xFFFF),
               phase := .rPollRd, req := 0x400000#24, reqPending := true })

/-- R187, R301, R336: the settle lasts exactly `SETTLE_MS` ticks, ten by default: before the last the block only counts, and the
last issues the identity read. A parameter of 0 would give no tick to end at, and is shut out (`Inv.timing_fits`). -/
def Obligations.SettleLastsItsTicks : Prop :=
  ∀ s : State, s.phase = .iSettle → s.ds = .config → s.waitCnt = 0#16 → 0 < s.settleMs.toNat →
    (∀ n : Nat, n < s.settleMs.toNat → blockTick^[n] s = { s with waitCnt := BitVec.ofNat 16 n })
    ∧ blockTick^[s.settleMs.toNat] s =
      { s with waitCnt := s.settleMs, phase := .iRdId, req := 0x400200#24, reqPending := true }

/-- R196, R301, R337: the conversion wait lasts exactly 2^timeCode + `PROC_MARGIN_MS` ticks (20 by default), for each of the 16
time codes, and then the first status read is issued with `POLL_CNT` 0. The sum fits `WAIT_CNT` (R37; `Inv.timing_fits`). -/
def Obligations.ConversionWaitLastsItsTicks : Prop :=
  ∀ s : State, s.phase = .rWait → s.ds = .measConv → s.waitCnt = 0#16 → s.intTimeMs = 1#16 <<< s.timeCode.toNat →
    2 ^ s.timeCode.toNat + s.procMarginMs.toNat ≤ 0xFFFF →
    (∀ n : Nat, n < 2 ^ s.timeCode.toNat + s.procMarginMs.toNat → blockTick^[n] s = { s with waitCnt := BitVec.ofNat 16 n })
    ∧ blockTick^[2 ^ s.timeCode.toNat + s.procMarginMs.toNat] s =
      { s with waitCnt := BitVec.ofNat 16 (2 ^ s.timeCode.toNat + s.procMarginMs.toNat), pollCnt := 0#16,
               phase := .rPollRd, req := 0x400000#24, reqPending := true }

/-- R201, R202, R301: with no tick during a status read, a device that is never ready is read at `POLL_CNT` 0 and then after each
`POLL_INTERVAL_MS` ticks, until the first read whose count is 500 or more ends the loop degraded. With the default interval of 5
the counts are 0, 5, 10, up to 500, and the 101st read ends the loop. An interval of 0 is shut out (`Inv.timing_fits`). -/
def Obligations.PollLoopEndsAtTheReadNumbered101 : Prop :=
  ∀ (s : State) (d : Byte), s.phase = .rPollRd → s.reqPending = true → s.ds = .measConv → s.pollCnt = 0#16 →
    d.getLsbD 3 = false → 0 < s.pollIntervalMs.toNat →
    (∀ k : Nat, s.pollIntervalMs.toNat * (k - 1) < 500 →
      ((pollRound d)^[k] s).phase = .rPollRd ∧ ((pollRound d)^[k] s).reqPending = true
      ∧ ((pollRound d)^[k] s).pollCnt.toNat = min (s.pollIntervalMs.toNat * k) 0xFFFF
      ∧ ((pollRound d)^[k] s).degraded = s.degraded)
    ∧ (∀ k : Nat, s.pollIntervalMs.toNat * (k - 1) < 500 → 500 ≤ s.pollIntervalMs.toNat * k →
      ∃ t, respond true [d] ((pollRound d)^[k] s) = .next t ∧ t.phase = .rBlkRd ∧ t.degraded = true ∧ t.ds = .measConv)
    ∧ (s.pollIntervalMs = 5#16 →
      (∀ k : Nat, k ≤ 100 → ((pollRound d)^[k] s).phase = .rPollRd ∧ ((pollRound d)^[k] s).pollCnt.toNat = 5 * k)
      ∧ ∃ t, respond true [d] ((pollRound d)^[100] s) = .next t ∧ t.phase = .rBlkRd ∧ t.degraded = true ∧ t.ds = .measConv)

/-! ### The conversion engine -/

/-- R220: the four counts of the block, each with its low byte first, at +0, +2, +4 and +6. -/
def Obligations.BlockDecodesLittleEndian : Prop :=
  ∀ b : Block,
    (decodeBlock b).temp.toNat = b.b0.toNat + 256 * b.b1.toNat ∧ (decodeBlock b).a.toNat = b.b2.toNat + 256 * b.b3.toNat
    ∧ (decodeBlock b).b.toNat = b.b4.toNat + 256 * b.b5.toNat ∧ (decodeBlock b).c.toNat = b.b6.toNat + 256 * b.b7.toNat

/-- R221, R222: both factors are 2 to the code, for all 16 codes. -/
def Obligations.FactorsArePowersOfTwo : Prop :=
  ∀ c : Code, (gainFactorOf c).toNat = 2 ^ c.toNat ∧ (intTimeOf c).toNat = 2 ^ c.toNat

/-- R224: the irradiance is floor(raw * 2^32 / D), at most 0xFFFFFFFF, with the zero guard. What stands for a divisor 0 is a free
value (log 8). -/
def Obligations.IrradianceIsTheQuotient : Prop :=
  ∀ (raw : Count) (sens : Word) (g t : Count),
    (raw = 0#16 ∨ sens = 0#32 → irradiance raw sens g t = (0#32, false))
    ∧ (raw ≠ 0#16 → sens ≠ 0#32 → g ≠ 0#16 → t ≠ 0#16 →
      (irradiance raw sens g t).1.toNat =
        min (raw.toNat * 2 ^ 32 / (sens.toNat * g.toNat * t.toNat)) 0xFFFFFFFF
      ∧ ((irradiance raw sens g t).2 = true ↔ 0xFFFFFFFF < raw.toNat * 2 ^ 32 / (sens.toNat * g.toNat * t.toNat)))

/-- R226: saturation, with its bit, happens exactly when raw is at least D. -/
def Obligations.IrradianceSaturatesExactlyFromD : Prop :=
  ∀ (raw : Count) (sens : Word) (g t : Count), raw ≠ 0#16 → sens ≠ 0#32 → g ≠ 0#16 → t ≠ 0#16 →
    ((irradiance raw sens g t).2 = true ↔ sens.toNat * g.toNat * t.toNat ≤ raw.toNat)
    ∧ ((irradiance raw sens g t).2 = true → (irradiance raw sens g t).1 = 0xFFFFFFFF#32)

/-- R225: an unsaturated result is the exact floor: never above raw * 2^32 / D, and below it by less than one. -/
def Obligations.IrradianceIsTheExactFloor : Prop :=
  ∀ (raw : Count) (sens : Word) (g t : Count), raw ≠ 0#16 → sens ≠ 0#32 → g ≠ 0#16 → t ≠ 0#16 →
    (irradiance raw sens g t).2 = false →
    (irradiance raw sens g t).1.toNat * (sens.toNat * g.toNat * t.toNat) ≤ raw.toNat * 2 ^ 32
    ∧ raw.toNat * 2 ^ 32 < ((irradiance raw sens g t).1.toNat + 1) * (sens.toNat * g.toNat * t.toNat)

/-- R230: for every raw count and sensitivity the stored value does not increase when a code grows. -/
def Obligations.IrradianceDoesNotIncreaseWithTheCodes : Prop :=
  ∀ (raw : Count) (sens : Word) (g t g' t' : Code), g.toNat ≤ g'.toNat → t.toNat ≤ t'.toNat →
    (irradiance raw sens (gainFactorOf g') (intTimeOf t')).1.toNat
      ≤ (irradiance raw sens (gainFactorOf g) (intTimeOf t)).1.toNat

/-- R231: the irradiance depends on the codes only through their sum. -/
def Obligations.IrradianceDependsOnTheSumOfTheCodes : Prop :=
  ∀ (raw : Count) (sens : Word) (g t g' t' : Code), g.toNat + t.toNat = g'.toNat + t'.toNat →
    irradiance raw sens (gainFactorOf g) (intTimeOf t) = irradiance raw sens (gainFactorOf g') (intTimeOf t')

/-- R228: as a signed number the temperature is exactly raw - 10240, for every count. -/
def Obligations.TemperatureIsExact : Prop :=
  ∀ raw : Count, (temperature raw).toInt = (raw.toNat : Int) - 10240

/-- R232: what a READ commits depends only on its block, the factors, the sensitivities and nothing of an earlier READ. -/
def Obligations.ResultsDependOnlyOnTheReadsOwnData : Prop :=
  ∀ s s' t t' : State, s.phase = .rWrCfg → s'.phase = .rWrCfg → s.reqPending = true → s'.reqPending = true →
    s.blk = s'.blk → s.gainFactor = s'.gainFactor → s.intTimeMs = s'.intTimeMs →
    s.sensA = s'.sensA → s.sensB = s'.sensB → s.sensC = s'.sensC →
    respond true [] s = .next t → respond true [] s' = .next t' → t.results = t'.results

/-! ### Reset -/

/-- R321: the value of every piece of the block's state after reset, and what HOST then reads. -/
def Obligations.ResetLeavesTheListedValues : Prop :=
  let s := State.reset
  s.busy = false ∧ s.done = false ∧ s.initOk = false ∧ s.valid = false ∧ s.degraded = false ∧ s.idWarn = false
  ∧ s.ovr = false ∧ s.err = .none ∧ s.satA = false ∧ s.satB = false ∧ s.satC = false ∧ s.ds = .off
  ∧ s.reqPending = false ∧ s.phase = .idle ∧ s.failPhase = .idle ∧ s.gainCode = 0#4 ∧ s.timeCode = 0#4
  ∧ s.devId = 0#8 ∧ s.gainFactor = 0#16 ∧ s.intTimeMs = 0#16
  ∧ s.rawTemp = 0#16 ∧ s.rawA = 0#16 ∧ s.rawB = 0#16 ∧ s.rawC = 0#16
  ∧ s.irrA = 0#32 ∧ s.irrB = 0#32 ∧ s.irrC = 0#32 ∧ s.temp = 0#32
  ∧ s.waitCnt = 0#16 ∧ s.pollCnt = 0#16 ∧ s.blk = ⟨0, 0, 0, 0, 0, 0, 0, 0⟩ ∧ s.req = 0#24 ∧ s.irq = false
  ∧ (∀ off : Byte, s.hostRegister off = 0#32)

/-- R320: a reset in any phase sets every register of the block to its reset value, leaves the parameters and the device as
they are, and abandons an outstanding request. What the transport may still do is in `abandoned` (log 4). -/
def Obligations.ResetClearsTheBlockOnly : Prop :=
  ∀ (s : State) (rest : List Event), s.offer = none → s.schedule = .env .reset :: rest →
    step s = .next { State.reset with
      devAddr := s.devAddr, sensA := s.sensA, sensB := s.sensB, sensC := s.sensC,
      settleMs := s.settleMs, procMarginMs := s.procMarginMs, pollIntervalMs := s.pollIntervalMs, dev := s.dev,
      abandoned := s.abandoned ++ (if s.reqPending then [s.req] else []),
      hostRdata := s.hostRdata, schedule := rest }

/-! ### The whole machine -/

/-- R40: the state after reset satisfies the invariant. -/
def Obligations.ResetSatisfiesTheInvariant : Prop :=
  Machine.Inv State.reset

/-- R40, R169: every step of every agent keeps the invariant: `BUSY` and `PHASE` agree, the outstanding request is the one
the phase waits for, results stand only with `VALID`, the declared state fits the phase, and the arbiter refuses nothing. -/
def Obligations.EveryStepKeepsTheInvariant : Prop :=
  ∀ s t : State, Machine.Inv s → step s = .next t → Machine.Inv t

/-- R207, R265: from a state of the invariant no event the contract admits stops the machine: every phase has a rule for every
event that can come. That an event the contract excludes would stop it, by a named fault or refusal, is the model's choice
(log 11), and the schedule the events stand in is the model's own (log 1). -/
def Obligations.AdmittedEventsNeverStopTheMachine : Prop :=
  ∀ s : State, Machine.Inv s → (∀ e rest, s.schedule = e :: rest → e.admitted s) → ∃ t, step s = .next t

/-- R208, R333: a transaction phase is left only by its response or a reset; any other event, and no event, leaves the block
busy in it with its request outstanding. -/
def Obligations.TransactionPhaseIsLeftOnlyByItsResponse : Prop :=
  ∀ s t : State, Machine.Inv s → s.phase.isTransaction = true → step s = .next t →
    (∀ c rest, s.schedule ≠ .env (.transport c) :: rest) → (∀ rest, s.schedule ≠ .env .reset :: rest) →
    t.phase = s.phase ∧ t.busy = true ∧ t.reqPending = true ∧ t.req = s.req ∧ t.ds = s.ds ∧ t.err = s.err

/-- R287: `irq` rises only in a step in which a command ends, by finish or abort from busy, or by a rejection. -/
def Obligations.InterruptRisesOnlyWhenACommandEnds : Prop :=
  ∀ s t : State, Machine.Inv s → step s = .next t → s.irq = false → t.irq = true →
    t.busy = false ∧ t.phase = .idle
    ∧ (s.busy = true ∧ (t.err = .none ∨ t.err = .busFail) ∨ s.busy = false ∧ (t.err = .illegalCmd ∨ t.err = .notInit))

/-- R8, R251, R320: no step changes the block's parameters or the device's identity byte. -/
def Obligations.ParametersNeverChange : Prop :=
  ∀ s t : State, step s = .next t →
    t.devAddr = s.devAddr ∧ t.sensA = s.sensA ∧ t.sensB = s.sensB ∧ t.sensC = s.sensC
    ∧ t.settleMs = s.settleMs ∧ t.procMarginMs = s.procMarginMs ∧ t.pollIntervalMs = s.pollIntervalMs
    ∧ t.dev.idbyte = s.dev.idbyte

/-! ### The device and the closed loop -/

/-- R253, R258: what an acknowledged write does at the device: the OSR byte selects its state, and in Configuration the three
control registers take the byte. That an OSR write keeps every field its row does not name is read from the table's silence: for the
power-down row, which says only that the device becomes Off, keeping the control bytes and the sample is the model's choice, and
91_not_in_source N21 warns against assuming it (log 16, unsafe). -/
def Obligations.DeviceTakesTheWrittenByte : Prop :=
  ∀ (addr : BitVec 7) (c : Choice) (d : Device) (v : Byte), c.ok = true →
    (v.getLsbD 6 = true → carryOut addr (0x000000#24 ||| v.setWidth 24) c d = ({ d with mode := .off }, []))
    ∧ carryOut addr 0x000002#24 c d = ({ d with mode := .config }, [])
    ∧ carryOut addr 0x000083#24 c d = ({ d with mode := .measConv, since := 0 }, [])
    ∧ carryOut addr 0x000003#24 c d = ({ d with mode := .measIdle }, [])
    ∧ (d.mode = .config → carryOut addr (0x000600#24 ||| v.setWidth 24) c d = ({ d with creg1 := v }, []))
    ∧ (d.mode = .config → carryOut addr (0x000800#24 ||| v.setWidth 24) c d = ({ d with creg2 := v }, []))
    ∧ (d.mode = .config → carryOut addr (0x000900#24 ||| v.setWidth 24) c d = ({ d with creg3 := v }, []))

/-- R255, R256, R257: what an acknowledged read returns: the identity byte in Configuration; a status byte whose new-data bit is
1 exactly when the device is ready and not converting; eight bytes of one sample when it is ready. A read changes nothing. -/
def Obligations.DeviceAnswersReads : Prop :=
  ∀ (addr : BitVec 7) (c : Choice) (d : Device), c.ok = true →
    (d.mode = .config → carryOut addr 0x400200#24 c d = (d, [d.idbyte]))
    ∧ (d.mode = .measReady → ∃ v : Byte, carryOut addr 0x400000#24 c d = (d, [v]) ∧ v.getLsbD 3 = true)
    ∧ (d.mode = .measConv → ∃ v : Byte, carryOut addr 0x400000#24 c d = (d, [v]) ∧ v.getLsbD 3 = false)
    ∧ (d.mode = .measReady → ∃ b : Block, carryOut addr 0xB80100#24 c d = (d, b.bytes) ∧ decodeBlock b = d.sample)
    ∧ (∃ b : Block, carryOut addr 0xB80100#24 c d = (d, b.bytes))

/-- R254: the environment may end a conversion while the device converts, once its integration time has passed; the device then
holds the sample, and the block's registers do not change. That a `devReady` event which comes sooner, or while the device does not
convert, gives no next state is the model's choice: the contract has no such event, and the step stops by a named fault (log 11). -/
def Obligations.ConversionEndsNoSoonerThanItsTime : Prop :=
  ∀ (s : State) (m : Sample) (rest : List Event), s.offer = none → s.schedule = .env (.devReady m) :: rest →
    ((∃ t, step s = .next t) ↔ s.dev.mode = .measConv ∧ 2 ^ (s.dev.creg1.toNat % 16) ≤ s.dev.since)
    ∧ (s.dev.mode = .measConv → 2 ^ (s.dev.creg1.toNat % 16) ≤ s.dev.since → step s =
      .next { s with dev := { s.dev with mode := .measReady, sample := m }, schedule := rest })

/-- R264, R265: a transaction that fails returns no byte, and the device acted, did not act, or is left in any state. What `any
state` takes in is the model's reading of R260: operating state, control bytes and sample take any value, while the tick count since
the last trigger and the identity byte are kept, by the model's choice and not by R264's words (log 13, unsafe). -/
def Obligations.FailedTransactionReturnsNoByte : Prop :=
  ∀ (addr : BitVec 7) (t : Descriptor) (c : Choice) (d : Device), c.ok = false →
    (carryOut addr t c d).2 = []
    ∧ (c.failEffect = .notActed → (carryOut addr t c d).1 = d)
    ∧ (c.failEffect = .acted → (carryOut addr t c d).1 = (carryOut addr t { c with ok := true } d).1)
    ∧ (c.failEffect = .anyState → transportCall addr t ≠ none → (carryOut addr t c d).1 =
        { d with mode := c.havoc.mode, creg1 := c.havoc.creg1, creg2 := c.havoc.creg2, creg3 := c.havoc.creg3,
                 sample := c.havoc.sample })

/-- R210, R259: while no request is abandoned, every step keeps the device what the phase takes it for: in Configuration from
the settle on, with the gain and time of the command once CTRL1 is written, converting or ready after the trigger, and ready when
the new-data bit was seen. -/
def Obligations.DeviceAgreementIsKept : Prop :=
  ∀ s t : State, Machine.Inv s → s.abandoned = [] → deviceAgrees s → step s = .next t → deviceAgrees t

/-- R259: when INIT ends well and no request is abandoned, the device is in Configuration and holds the command's gain and time
and the control value. -/
def Obligations.SuccessfulInitConfiguresTheDevice : Prop :=
  ∀ (s t : State) (c : Choice) (rest : List Event), Machine.Inv s → s.abandoned = [] → deviceAgrees s → s.phase = .iWrCtrl2 →
    s.schedule = .env (.transport c) :: rest → c.ok = true → step s = .next t →
    t.initOk = true ∧ t.err = .none ∧ t.dev.mode = .config ∧ t.dev.creg1 = t.gainCode ++ t.timeCode ∧ t.dev.creg2 = 0x40#8

/-- R270: when READ ends well, was not degraded and no request is abandoned, `RAW0` and `RAW1` hold the device's sample,
`VALID` is 1, and the device is back in Configuration. That it still holds the sample there is read from R253's row, which names only
the operating state (log 16). -/
def Obligations.ReadReturnsTheDevicesSample : Prop :=
  ∀ (s t : State) (c : Choice) (rest : List Event), Machine.Inv s → s.abandoned = [] → deviceAgrees s → s.phase = .rWrCfg →
    s.degraded = false → s.schedule = .env (.transport c) :: rest → c.ok = true → step s = .next t →
    t.valid = true ∧ t.degraded = false ∧ t.err = .none ∧ t.dev.mode = .config ∧ t.dev.sample = s.dev.sample
    ∧ t.rawTemp = s.dev.sample.temp ∧ t.rawA = s.dev.sample.a ∧ t.rawB = s.dev.sample.b ∧ t.rawC = s.dev.sample.c
end

