-- ==== Sys2Proof/Laws/Decode.lean ====
section
/-! SUPPORT. The fields of an encoded command word and of an access descriptor. -/

namespace Sys2Proof

theorem cmdOp_cmdWord (time gain : Code) (op : BitVec 4) : cmdOp (cmdWord time gain op) = op := by
  apply BitVec.eq_of_getLsbD_eq; intro i hi
  simp only [cmdOp, cmdWord, BitVec.getLsbD_extractLsb', BitVec.getLsbD_append]
  interval_cases i <;> simp

theorem cmdGain_cmdWord (time gain : Code) (op : BitVec 4) : cmdGain (cmdWord time gain op) = gain := by
  apply BitVec.eq_of_getLsbD_eq; intro i hi
  simp only [cmdGain, cmdWord, BitVec.getLsbD_extractLsb', BitVec.getLsbD_append]
  interval_cases i <;> simp

theorem cmdTime_cmdWord (time gain : Code) (op : BitVec 4) : cmdTime (cmdWord time gain op) = time := by
  apply BitVec.eq_of_getLsbD_eq; intro i hi
  simp only [cmdTime, cmdWord, BitVec.getLsbD_extractLsb', BitVec.getLsbD_append]
  interval_cases i <;> simp

/-- A descriptor's offset and direction (30_encoding R92). -/
theorem writeDescriptor_fields (off : Byte) :
    (1#1 ++ off : BitVec 9).extractLsb' 0 8 = off ∧ (1#1 ++ off : BitVec 9).extractLsb' 8 1 = 1#1 := by
  revert off; decide

/-- The rows `CMD` and `STATUS` are writes to offsets 0x00 and 0x04. -/
theorem writeDescriptor_other {off : Byte} (h0 : off ≠ 0x00#8) (h4 : off ≠ 0x04#8) :
    (1#1 ++ off : BitVec 9) ≠ 0x100#9 ∧ (1#1 ++ off : BitVec 9) ≠ 0x104#9 := by
  revert off; decide

end Sys2Proof
end

