-- ==== Sys2Proof/Laws/Device.lean ====
section
/-! SUPPORT. What the device does on a call of the transport. -/

namespace Sys2Proof.Machine

/-- A count survives its two bytes. -/
theorem bytes_of_count (v : Count) : v.extractLsb' 8 8 ++ v.extractLsb' 0 8 = v := by
  apply BitVec.eq_of_getLsbD_eq; intro i hi
  simp only [BitVec.getLsbD_append, BitVec.getLsbD_extractLsb']
  split
  · simp [*]
  · simp [show 8 + (i - 8) = i by omega, show i - 8 < 8 by omega]

/-- A sample has eight bytes. -/
theorem sampleBytes_length (m : Sample) : (sampleBytes m).length = 8 := rfl

/-- The OSR rows keep the identity byte. -/
theorem deviceWriteOsr_idbyte (v : Byte) (h : Havoc) (d : Device) : (deviceWriteOsr v h d).idbyte = d.idbyte := by
  unfold deviceWriteOsr; repeat' split
  all_goals rfl

/-- No write changes the identity byte. -/
theorem deviceWrite_idbyte (reg v : Byte) (h : Havoc) (d : Device) : (deviceWrite reg v h d).idbyte = d.idbyte := by
  unfold deviceWrite; repeat' split
  all_goals first | exact deviceWriteOsr_idbyte v h d | rfl

/-- No call changes the identity byte. -/
theorem deviceReact_idbyte (call : TransportCall) (c : Choice) (d : Device) : (deviceReact call c d).1.idbyte = d.idbyte := by
  cases call <;> simp [deviceReact, deviceWrite_idbyte]

/-- No transaction changes the identity byte. -/
theorem carryOut_idbyte (addr : BitVec 7) (t : Descriptor) (c : Choice) (d : Device) :
    (carryOut addr t c d).1.idbyte = d.idbyte := by
  unfold carryOut
  split
  · rfl
  split
  · exact deviceReact_idbyte _ c d
  split
  · exact deviceReact_idbyte _ c d
  · rfl
  · rfl

/-- Time changes only `since`. -/
theorem deviceTick_mode (d : Device) : (deviceTick d).mode = d.mode := by unfold deviceTick; split <;> rfl

end Sys2Proof.Machine
end

