-- ==== Sys2Proof/Laws/State.lean ====
section
/-! SUPPORT. What each named update does to each field, so that no proof unfolds a record update. -/

namespace Sys2Proof.Machine

/-! `beginCommand` -/

@[simp] theorem beginCommand_busy (s : State) : (beginCommand s).busy = true := rfl
@[simp] theorem beginCommand_done (s : State) : (beginCommand s).done = false := rfl
@[simp] theorem beginCommand_initOk (s : State) : (beginCommand s).initOk = s.initOk := rfl
@[simp] theorem beginCommand_valid (s : State) : (beginCommand s).valid = false := rfl
@[simp] theorem beginCommand_degraded (s : State) : (beginCommand s).degraded = false := rfl
@[simp] theorem beginCommand_idWarn (s : State) : (beginCommand s).idWarn = s.idWarn := rfl
@[simp] theorem beginCommand_ovr (s : State) : (beginCommand s).ovr = s.ovr := rfl
@[simp] theorem beginCommand_err (s : State) : (beginCommand s).err = .none := rfl
@[simp] theorem beginCommand_satA (s : State) : (beginCommand s).satA = false := rfl
@[simp] theorem beginCommand_satB (s : State) : (beginCommand s).satB = false := rfl
@[simp] theorem beginCommand_satC (s : State) : (beginCommand s).satC = false := rfl
@[simp] theorem beginCommand_ds (s : State) : (beginCommand s).ds = s.ds := rfl
@[simp] theorem beginCommand_reqPending (s : State) : (beginCommand s).reqPending = s.reqPending := rfl
@[simp] theorem beginCommand_phase (s : State) : (beginCommand s).phase = s.phase := rfl
@[simp] theorem beginCommand_failPhase (s : State) : (beginCommand s).failPhase = .idle := rfl
@[simp] theorem beginCommand_gainCode (s : State) : (beginCommand s).gainCode = s.gainCode := rfl
@[simp] theorem beginCommand_timeCode (s : State) : (beginCommand s).timeCode = s.timeCode := rfl
@[simp] theorem beginCommand_devId (s : State) : (beginCommand s).devId = s.devId := rfl
@[simp] theorem beginCommand_gainFactor (s : State) : (beginCommand s).gainFactor = s.gainFactor := rfl
@[simp] theorem beginCommand_intTimeMs (s : State) : (beginCommand s).intTimeMs = s.intTimeMs := rfl
@[simp] theorem beginCommand_rawTemp (s : State) : (beginCommand s).rawTemp = 0#16 := rfl
@[simp] theorem beginCommand_rawA (s : State) : (beginCommand s).rawA = 0#16 := rfl
@[simp] theorem beginCommand_rawB (s : State) : (beginCommand s).rawB = 0#16 := rfl
@[simp] theorem beginCommand_rawC (s : State) : (beginCommand s).rawC = 0#16 := rfl
@[simp] theorem beginCommand_irrA (s : State) : (beginCommand s).irrA = 0#32 := rfl
@[simp] theorem beginCommand_irrB (s : State) : (beginCommand s).irrB = 0#32 := rfl
@[simp] theorem beginCommand_irrC (s : State) : (beginCommand s).irrC = 0#32 := rfl
@[simp] theorem beginCommand_temp (s : State) : (beginCommand s).temp = 0#32 := rfl
@[simp] theorem beginCommand_waitCnt (s : State) : (beginCommand s).waitCnt = s.waitCnt := rfl
@[simp] theorem beginCommand_pollCnt (s : State) : (beginCommand s).pollCnt = s.pollCnt := rfl
@[simp] theorem beginCommand_blk (s : State) : (beginCommand s).blk = s.blk := rfl
@[simp] theorem beginCommand_req (s : State) : (beginCommand s).req = s.req := rfl
@[simp] theorem beginCommand_devAddr (s : State) : (beginCommand s).devAddr = s.devAddr := rfl
@[simp] theorem beginCommand_sensA (s : State) : (beginCommand s).sensA = s.sensA := rfl
@[simp] theorem beginCommand_sensB (s : State) : (beginCommand s).sensB = s.sensB := rfl
@[simp] theorem beginCommand_sensC (s : State) : (beginCommand s).sensC = s.sensC := rfl
@[simp] theorem beginCommand_settleMs (s : State) : (beginCommand s).settleMs = s.settleMs := rfl
@[simp] theorem beginCommand_procMarginMs (s : State) : (beginCommand s).procMarginMs = s.procMarginMs := rfl
@[simp] theorem beginCommand_pollIntervalMs (s : State) : (beginCommand s).pollIntervalMs = s.pollIntervalMs := rfl
@[simp] theorem beginCommand_dev (s : State) : (beginCommand s).dev = s.dev := rfl
@[simp] theorem beginCommand_abandoned (s : State) : (beginCommand s).abandoned = s.abandoned := rfl
@[simp] theorem beginCommand_hostRdata (s : State) : (beginCommand s).hostRdata = s.hostRdata := rfl
@[simp] theorem beginCommand_offer (s : State) : (beginCommand s).offer = s.offer := rfl
@[simp] theorem beginCommand_schedule (s : State) : (beginCommand s).schedule = s.schedule := rfl

/-! `rejectCommand` -/

@[simp] theorem rejectCommand_busy (code : ErrCode) (s : State) : (rejectCommand code s).busy = s.busy := rfl
@[simp] theorem rejectCommand_done (code : ErrCode) (s : State) : (rejectCommand code s).done = true := rfl
@[simp] theorem rejectCommand_initOk (code : ErrCode) (s : State) : (rejectCommand code s).initOk = s.initOk := rfl
@[simp] theorem rejectCommand_valid (code : ErrCode) (s : State) : (rejectCommand code s).valid = s.valid := rfl
@[simp] theorem rejectCommand_degraded (code : ErrCode) (s : State) : (rejectCommand code s).degraded = s.degraded := rfl
@[simp] theorem rejectCommand_idWarn (code : ErrCode) (s : State) : (rejectCommand code s).idWarn = s.idWarn := rfl
@[simp] theorem rejectCommand_ovr (code : ErrCode) (s : State) : (rejectCommand code s).ovr = s.ovr := rfl
@[simp] theorem rejectCommand_err (code : ErrCode) (s : State) : (rejectCommand code s).err = code := rfl
@[simp] theorem rejectCommand_satA (code : ErrCode) (s : State) : (rejectCommand code s).satA = s.satA := rfl
@[simp] theorem rejectCommand_satB (code : ErrCode) (s : State) : (rejectCommand code s).satB = s.satB := rfl
@[simp] theorem rejectCommand_satC (code : ErrCode) (s : State) : (rejectCommand code s).satC = s.satC := rfl
@[simp] theorem rejectCommand_ds (code : ErrCode) (s : State) : (rejectCommand code s).ds = s.ds := rfl
@[simp] theorem rejectCommand_reqPending (code : ErrCode) (s : State) : (rejectCommand code s).reqPending = s.reqPending := rfl
@[simp] theorem rejectCommand_phase (code : ErrCode) (s : State) : (rejectCommand code s).phase = s.phase := rfl
@[simp] theorem rejectCommand_failPhase (code : ErrCode) (s : State) : (rejectCommand code s).failPhase = .idle := rfl
@[simp] theorem rejectCommand_gainCode (code : ErrCode) (s : State) : (rejectCommand code s).gainCode = s.gainCode := rfl
@[simp] theorem rejectCommand_timeCode (code : ErrCode) (s : State) : (rejectCommand code s).timeCode = s.timeCode := rfl
@[simp] theorem rejectCommand_devId (code : ErrCode) (s : State) : (rejectCommand code s).devId = s.devId := rfl
@[simp] theorem rejectCommand_gainFactor (code : ErrCode) (s : State) : (rejectCommand code s).gainFactor = s.gainFactor := rfl
@[simp] theorem rejectCommand_intTimeMs (code : ErrCode) (s : State) : (rejectCommand code s).intTimeMs = s.intTimeMs := rfl
@[simp] theorem rejectCommand_rawTemp (code : ErrCode) (s : State) : (rejectCommand code s).rawTemp = s.rawTemp := rfl
@[simp] theorem rejectCommand_rawA (code : ErrCode) (s : State) : (rejectCommand code s).rawA = s.rawA := rfl
@[simp] theorem rejectCommand_rawB (code : ErrCode) (s : State) : (rejectCommand code s).rawB = s.rawB := rfl
@[simp] theorem rejectCommand_rawC (code : ErrCode) (s : State) : (rejectCommand code s).rawC = s.rawC := rfl
@[simp] theorem rejectCommand_irrA (code : ErrCode) (s : State) : (rejectCommand code s).irrA = s.irrA := rfl
@[simp] theorem rejectCommand_irrB (code : ErrCode) (s : State) : (rejectCommand code s).irrB = s.irrB := rfl
@[simp] theorem rejectCommand_irrC (code : ErrCode) (s : State) : (rejectCommand code s).irrC = s.irrC := rfl
@[simp] theorem rejectCommand_temp (code : ErrCode) (s : State) : (rejectCommand code s).temp = s.temp := rfl
@[simp] theorem rejectCommand_waitCnt (code : ErrCode) (s : State) : (rejectCommand code s).waitCnt = s.waitCnt := rfl
@[simp] theorem rejectCommand_pollCnt (code : ErrCode) (s : State) : (rejectCommand code s).pollCnt = s.pollCnt := rfl
@[simp] theorem rejectCommand_blk (code : ErrCode) (s : State) : (rejectCommand code s).blk = s.blk := rfl
@[simp] theorem rejectCommand_req (code : ErrCode) (s : State) : (rejectCommand code s).req = s.req := rfl
@[simp] theorem rejectCommand_devAddr (code : ErrCode) (s : State) : (rejectCommand code s).devAddr = s.devAddr := rfl
@[simp] theorem rejectCommand_sensA (code : ErrCode) (s : State) : (rejectCommand code s).sensA = s.sensA := rfl
@[simp] theorem rejectCommand_sensB (code : ErrCode) (s : State) : (rejectCommand code s).sensB = s.sensB := rfl
@[simp] theorem rejectCommand_sensC (code : ErrCode) (s : State) : (rejectCommand code s).sensC = s.sensC := rfl
@[simp] theorem rejectCommand_settleMs (code : ErrCode) (s : State) : (rejectCommand code s).settleMs = s.settleMs := rfl
@[simp] theorem rejectCommand_procMarginMs (code : ErrCode) (s : State) : (rejectCommand code s).procMarginMs = s.procMarginMs := rfl
@[simp] theorem rejectCommand_pollIntervalMs (code : ErrCode) (s : State) : (rejectCommand code s).pollIntervalMs = s.pollIntervalMs := rfl
@[simp] theorem rejectCommand_dev (code : ErrCode) (s : State) : (rejectCommand code s).dev = s.dev := rfl
@[simp] theorem rejectCommand_abandoned (code : ErrCode) (s : State) : (rejectCommand code s).abandoned = s.abandoned := rfl
@[simp] theorem rejectCommand_hostRdata (code : ErrCode) (s : State) : (rejectCommand code s).hostRdata = s.hostRdata := rfl
@[simp] theorem rejectCommand_offer (code : ErrCode) (s : State) : (rejectCommand code s).offer = s.offer := rfl
@[simp] theorem rejectCommand_schedule (code : ErrCode) (s : State) : (rejectCommand code s).schedule = s.schedule := rfl

/-! `dropCommand` -/

@[simp] theorem dropCommand_busy (s : State) : (dropCommand s).busy = s.busy := rfl
@[simp] theorem dropCommand_done (s : State) : (dropCommand s).done = s.done := rfl
@[simp] theorem dropCommand_initOk (s : State) : (dropCommand s).initOk = s.initOk := rfl
@[simp] theorem dropCommand_valid (s : State) : (dropCommand s).valid = s.valid := rfl
@[simp] theorem dropCommand_degraded (s : State) : (dropCommand s).degraded = s.degraded := rfl
@[simp] theorem dropCommand_idWarn (s : State) : (dropCommand s).idWarn = s.idWarn := rfl
@[simp] theorem dropCommand_ovr (s : State) : (dropCommand s).ovr = true := rfl
@[simp] theorem dropCommand_err (s : State) : (dropCommand s).err = s.err := rfl
@[simp] theorem dropCommand_satA (s : State) : (dropCommand s).satA = s.satA := rfl
@[simp] theorem dropCommand_satB (s : State) : (dropCommand s).satB = s.satB := rfl
@[simp] theorem dropCommand_satC (s : State) : (dropCommand s).satC = s.satC := rfl
@[simp] theorem dropCommand_ds (s : State) : (dropCommand s).ds = s.ds := rfl
@[simp] theorem dropCommand_reqPending (s : State) : (dropCommand s).reqPending = s.reqPending := rfl
@[simp] theorem dropCommand_phase (s : State) : (dropCommand s).phase = s.phase := rfl
@[simp] theorem dropCommand_failPhase (s : State) : (dropCommand s).failPhase = s.failPhase := rfl
@[simp] theorem dropCommand_gainCode (s : State) : (dropCommand s).gainCode = s.gainCode := rfl
@[simp] theorem dropCommand_timeCode (s : State) : (dropCommand s).timeCode = s.timeCode := rfl
@[simp] theorem dropCommand_devId (s : State) : (dropCommand s).devId = s.devId := rfl
@[simp] theorem dropCommand_gainFactor (s : State) : (dropCommand s).gainFactor = s.gainFactor := rfl
@[simp] theorem dropCommand_intTimeMs (s : State) : (dropCommand s).intTimeMs = s.intTimeMs := rfl
@[simp] theorem dropCommand_rawTemp (s : State) : (dropCommand s).rawTemp = s.rawTemp := rfl
@[simp] theorem dropCommand_rawA (s : State) : (dropCommand s).rawA = s.rawA := rfl
@[simp] theorem dropCommand_rawB (s : State) : (dropCommand s).rawB = s.rawB := rfl
@[simp] theorem dropCommand_rawC (s : State) : (dropCommand s).rawC = s.rawC := rfl
@[simp] theorem dropCommand_irrA (s : State) : (dropCommand s).irrA = s.irrA := rfl
@[simp] theorem dropCommand_irrB (s : State) : (dropCommand s).irrB = s.irrB := rfl
@[simp] theorem dropCommand_irrC (s : State) : (dropCommand s).irrC = s.irrC := rfl
@[simp] theorem dropCommand_temp (s : State) : (dropCommand s).temp = s.temp := rfl
@[simp] theorem dropCommand_waitCnt (s : State) : (dropCommand s).waitCnt = s.waitCnt := rfl
@[simp] theorem dropCommand_pollCnt (s : State) : (dropCommand s).pollCnt = s.pollCnt := rfl
@[simp] theorem dropCommand_blk (s : State) : (dropCommand s).blk = s.blk := rfl
@[simp] theorem dropCommand_req (s : State) : (dropCommand s).req = s.req := rfl
@[simp] theorem dropCommand_devAddr (s : State) : (dropCommand s).devAddr = s.devAddr := rfl
@[simp] theorem dropCommand_sensA (s : State) : (dropCommand s).sensA = s.sensA := rfl
@[simp] theorem dropCommand_sensB (s : State) : (dropCommand s).sensB = s.sensB := rfl
@[simp] theorem dropCommand_sensC (s : State) : (dropCommand s).sensC = s.sensC := rfl
@[simp] theorem dropCommand_settleMs (s : State) : (dropCommand s).settleMs = s.settleMs := rfl
@[simp] theorem dropCommand_procMarginMs (s : State) : (dropCommand s).procMarginMs = s.procMarginMs := rfl
@[simp] theorem dropCommand_pollIntervalMs (s : State) : (dropCommand s).pollIntervalMs = s.pollIntervalMs := rfl
@[simp] theorem dropCommand_dev (s : State) : (dropCommand s).dev = s.dev := rfl
@[simp] theorem dropCommand_abandoned (s : State) : (dropCommand s).abandoned = s.abandoned := rfl
@[simp] theorem dropCommand_hostRdata (s : State) : (dropCommand s).hostRdata = s.hostRdata := rfl
@[simp] theorem dropCommand_offer (s : State) : (dropCommand s).offer = s.offer := rfl
@[simp] theorem dropCommand_schedule (s : State) : (dropCommand s).schedule = s.schedule := rfl

/-! `finish` -/

@[simp] theorem finish_busy (s : State) : (finish s).busy = false := rfl
@[simp] theorem finish_done (s : State) : (finish s).done = true := rfl
@[simp] theorem finish_initOk (s : State) : (finish s).initOk = s.initOk := rfl
@[simp] theorem finish_valid (s : State) : (finish s).valid = s.valid := rfl
@[simp] theorem finish_degraded (s : State) : (finish s).degraded = s.degraded := rfl
@[simp] theorem finish_idWarn (s : State) : (finish s).idWarn = s.idWarn := rfl
@[simp] theorem finish_ovr (s : State) : (finish s).ovr = s.ovr := rfl
@[simp] theorem finish_err (s : State) : (finish s).err = s.err := rfl
@[simp] theorem finish_satA (s : State) : (finish s).satA = s.satA := rfl
@[simp] theorem finish_satB (s : State) : (finish s).satB = s.satB := rfl
@[simp] theorem finish_satC (s : State) : (finish s).satC = s.satC := rfl
@[simp] theorem finish_ds (s : State) : (finish s).ds = s.ds := rfl
@[simp] theorem finish_reqPending (s : State) : (finish s).reqPending = s.reqPending := rfl
@[simp] theorem finish_phase (s : State) : (finish s).phase = .idle := rfl
@[simp] theorem finish_failPhase (s : State) : (finish s).failPhase = s.failPhase := rfl
@[simp] theorem finish_gainCode (s : State) : (finish s).gainCode = s.gainCode := rfl
@[simp] theorem finish_timeCode (s : State) : (finish s).timeCode = s.timeCode := rfl
@[simp] theorem finish_devId (s : State) : (finish s).devId = s.devId := rfl
@[simp] theorem finish_gainFactor (s : State) : (finish s).gainFactor = s.gainFactor := rfl
@[simp] theorem finish_intTimeMs (s : State) : (finish s).intTimeMs = s.intTimeMs := rfl
@[simp] theorem finish_rawTemp (s : State) : (finish s).rawTemp = s.rawTemp := rfl
@[simp] theorem finish_rawA (s : State) : (finish s).rawA = s.rawA := rfl
@[simp] theorem finish_rawB (s : State) : (finish s).rawB = s.rawB := rfl
@[simp] theorem finish_rawC (s : State) : (finish s).rawC = s.rawC := rfl
@[simp] theorem finish_irrA (s : State) : (finish s).irrA = s.irrA := rfl
@[simp] theorem finish_irrB (s : State) : (finish s).irrB = s.irrB := rfl
@[simp] theorem finish_irrC (s : State) : (finish s).irrC = s.irrC := rfl
@[simp] theorem finish_temp (s : State) : (finish s).temp = s.temp := rfl
@[simp] theorem finish_waitCnt (s : State) : (finish s).waitCnt = s.waitCnt := rfl
@[simp] theorem finish_pollCnt (s : State) : (finish s).pollCnt = s.pollCnt := rfl
@[simp] theorem finish_blk (s : State) : (finish s).blk = s.blk := rfl
@[simp] theorem finish_req (s : State) : (finish s).req = s.req := rfl
@[simp] theorem finish_devAddr (s : State) : (finish s).devAddr = s.devAddr := rfl
@[simp] theorem finish_sensA (s : State) : (finish s).sensA = s.sensA := rfl
@[simp] theorem finish_sensB (s : State) : (finish s).sensB = s.sensB := rfl
@[simp] theorem finish_sensC (s : State) : (finish s).sensC = s.sensC := rfl
@[simp] theorem finish_settleMs (s : State) : (finish s).settleMs = s.settleMs := rfl
@[simp] theorem finish_procMarginMs (s : State) : (finish s).procMarginMs = s.procMarginMs := rfl
@[simp] theorem finish_pollIntervalMs (s : State) : (finish s).pollIntervalMs = s.pollIntervalMs := rfl
@[simp] theorem finish_dev (s : State) : (finish s).dev = s.dev := rfl
@[simp] theorem finish_abandoned (s : State) : (finish s).abandoned = s.abandoned := rfl
@[simp] theorem finish_hostRdata (s : State) : (finish s).hostRdata = s.hostRdata := rfl
@[simp] theorem finish_offer (s : State) : (finish s).offer = s.offer := rfl
@[simp] theorem finish_schedule (s : State) : (finish s).schedule = s.schedule := rfl

/-! `clearStatus` -/

@[simp] theorem clearStatus_busy (w : Word) (s : State) : (clearStatus w s).busy = s.busy := rfl
@[simp] theorem clearStatus_done (w : Word) (s : State) : (clearStatus w s).done = if w.getLsbD 1 then false else s.done := rfl
@[simp] theorem clearStatus_initOk (w : Word) (s : State) : (clearStatus w s).initOk = s.initOk := rfl
@[simp] theorem clearStatus_valid (w : Word) (s : State) : (clearStatus w s).valid = s.valid := rfl
@[simp] theorem clearStatus_degraded (w : Word) (s : State) : (clearStatus w s).degraded = s.degraded := rfl
@[simp] theorem clearStatus_idWarn (w : Word) (s : State) : (clearStatus w s).idWarn = s.idWarn := rfl
@[simp] theorem clearStatus_ovr (w : Word) (s : State) : (clearStatus w s).ovr = if w.getLsbD 6 then false else s.ovr := rfl
@[simp] theorem clearStatus_err (w : Word) (s : State) : (clearStatus w s).err = s.err := rfl
@[simp] theorem clearStatus_satA (w : Word) (s : State) : (clearStatus w s).satA = s.satA := rfl
@[simp] theorem clearStatus_satB (w : Word) (s : State) : (clearStatus w s).satB = s.satB := rfl
@[simp] theorem clearStatus_satC (w : Word) (s : State) : (clearStatus w s).satC = s.satC := rfl
@[simp] theorem clearStatus_ds (w : Word) (s : State) : (clearStatus w s).ds = s.ds := rfl
@[simp] theorem clearStatus_reqPending (w : Word) (s : State) : (clearStatus w s).reqPending = s.reqPending := rfl
@[simp] theorem clearStatus_phase (w : Word) (s : State) : (clearStatus w s).phase = s.phase := rfl
@[simp] theorem clearStatus_failPhase (w : Word) (s : State) : (clearStatus w s).failPhase = s.failPhase := rfl
@[simp] theorem clearStatus_gainCode (w : Word) (s : State) : (clearStatus w s).gainCode = s.gainCode := rfl
@[simp] theorem clearStatus_timeCode (w : Word) (s : State) : (clearStatus w s).timeCode = s.timeCode := rfl
@[simp] theorem clearStatus_devId (w : Word) (s : State) : (clearStatus w s).devId = s.devId := rfl
@[simp] theorem clearStatus_gainFactor (w : Word) (s : State) : (clearStatus w s).gainFactor = s.gainFactor := rfl
@[simp] theorem clearStatus_intTimeMs (w : Word) (s : State) : (clearStatus w s).intTimeMs = s.intTimeMs := rfl
@[simp] theorem clearStatus_rawTemp (w : Word) (s : State) : (clearStatus w s).rawTemp = s.rawTemp := rfl
@[simp] theorem clearStatus_rawA (w : Word) (s : State) : (clearStatus w s).rawA = s.rawA := rfl
@[simp] theorem clearStatus_rawB (w : Word) (s : State) : (clearStatus w s).rawB = s.rawB := rfl
@[simp] theorem clearStatus_rawC (w : Word) (s : State) : (clearStatus w s).rawC = s.rawC := rfl
@[simp] theorem clearStatus_irrA (w : Word) (s : State) : (clearStatus w s).irrA = s.irrA := rfl
@[simp] theorem clearStatus_irrB (w : Word) (s : State) : (clearStatus w s).irrB = s.irrB := rfl
@[simp] theorem clearStatus_irrC (w : Word) (s : State) : (clearStatus w s).irrC = s.irrC := rfl
@[simp] theorem clearStatus_temp (w : Word) (s : State) : (clearStatus w s).temp = s.temp := rfl
@[simp] theorem clearStatus_waitCnt (w : Word) (s : State) : (clearStatus w s).waitCnt = s.waitCnt := rfl
@[simp] theorem clearStatus_pollCnt (w : Word) (s : State) : (clearStatus w s).pollCnt = s.pollCnt := rfl
@[simp] theorem clearStatus_blk (w : Word) (s : State) : (clearStatus w s).blk = s.blk := rfl
@[simp] theorem clearStatus_req (w : Word) (s : State) : (clearStatus w s).req = s.req := rfl
@[simp] theorem clearStatus_devAddr (w : Word) (s : State) : (clearStatus w s).devAddr = s.devAddr := rfl
@[simp] theorem clearStatus_sensA (w : Word) (s : State) : (clearStatus w s).sensA = s.sensA := rfl
@[simp] theorem clearStatus_sensB (w : Word) (s : State) : (clearStatus w s).sensB = s.sensB := rfl
@[simp] theorem clearStatus_sensC (w : Word) (s : State) : (clearStatus w s).sensC = s.sensC := rfl
@[simp] theorem clearStatus_settleMs (w : Word) (s : State) : (clearStatus w s).settleMs = s.settleMs := rfl
@[simp] theorem clearStatus_procMarginMs (w : Word) (s : State) : (clearStatus w s).procMarginMs = s.procMarginMs := rfl
@[simp] theorem clearStatus_pollIntervalMs (w : Word) (s : State) : (clearStatus w s).pollIntervalMs = s.pollIntervalMs := rfl
@[simp] theorem clearStatus_dev (w : Word) (s : State) : (clearStatus w s).dev = s.dev := rfl
@[simp] theorem clearStatus_abandoned (w : Word) (s : State) : (clearStatus w s).abandoned = s.abandoned := rfl
@[simp] theorem clearStatus_hostRdata (w : Word) (s : State) : (clearStatus w s).hostRdata = s.hostRdata := rfl
@[simp] theorem clearStatus_offer (w : Word) (s : State) : (clearStatus w s).offer = s.offer := rfl
@[simp] theorem clearStatus_schedule (w : Word) (s : State) : (clearStatus w s).schedule = s.schedule := rfl

/-! `abort` -/

@[simp] theorem abort_busy (code : ErrCode) (s : State) : (abort code s).busy = false := rfl
@[simp] theorem abort_done (code : ErrCode) (s : State) : (abort code s).done = true := rfl
@[simp] theorem abort_initOk (code : ErrCode) (s : State) : (abort code s).initOk = s.initOk := rfl
@[simp] theorem abort_valid (code : ErrCode) (s : State) : (abort code s).valid = s.valid := rfl
@[simp] theorem abort_degraded (code : ErrCode) (s : State) : (abort code s).degraded = s.degraded := rfl
@[simp] theorem abort_idWarn (code : ErrCode) (s : State) : (abort code s).idWarn = s.idWarn := rfl
@[simp] theorem abort_ovr (code : ErrCode) (s : State) : (abort code s).ovr = s.ovr := rfl
@[simp] theorem abort_err (code : ErrCode) (s : State) : (abort code s).err = code := rfl
@[simp] theorem abort_satA (code : ErrCode) (s : State) : (abort code s).satA = s.satA := rfl
@[simp] theorem abort_satB (code : ErrCode) (s : State) : (abort code s).satB = s.satB := rfl
@[simp] theorem abort_satC (code : ErrCode) (s : State) : (abort code s).satC = s.satC := rfl
@[simp] theorem abort_ds (code : ErrCode) (s : State) : (abort code s).ds = s.ds := rfl
@[simp] theorem abort_reqPending (code : ErrCode) (s : State) : (abort code s).reqPending = s.reqPending := rfl
@[simp] theorem abort_phase (code : ErrCode) (s : State) : (abort code s).phase = .idle := rfl
@[simp] theorem abort_failPhase (code : ErrCode) (s : State) : (abort code s).failPhase = s.phase := rfl
@[simp] theorem abort_gainCode (code : ErrCode) (s : State) : (abort code s).gainCode = s.gainCode := rfl
@[simp] theorem abort_timeCode (code : ErrCode) (s : State) : (abort code s).timeCode = s.timeCode := rfl
@[simp] theorem abort_devId (code : ErrCode) (s : State) : (abort code s).devId = s.devId := rfl
@[simp] theorem abort_gainFactor (code : ErrCode) (s : State) : (abort code s).gainFactor = s.gainFactor := rfl
@[simp] theorem abort_intTimeMs (code : ErrCode) (s : State) : (abort code s).intTimeMs = s.intTimeMs := rfl
@[simp] theorem abort_rawTemp (code : ErrCode) (s : State) : (abort code s).rawTemp = s.rawTemp := rfl
@[simp] theorem abort_rawA (code : ErrCode) (s : State) : (abort code s).rawA = s.rawA := rfl
@[simp] theorem abort_rawB (code : ErrCode) (s : State) : (abort code s).rawB = s.rawB := rfl
@[simp] theorem abort_rawC (code : ErrCode) (s : State) : (abort code s).rawC = s.rawC := rfl
@[simp] theorem abort_irrA (code : ErrCode) (s : State) : (abort code s).irrA = s.irrA := rfl
@[simp] theorem abort_irrB (code : ErrCode) (s : State) : (abort code s).irrB = s.irrB := rfl
@[simp] theorem abort_irrC (code : ErrCode) (s : State) : (abort code s).irrC = s.irrC := rfl
@[simp] theorem abort_temp (code : ErrCode) (s : State) : (abort code s).temp = s.temp := rfl
@[simp] theorem abort_waitCnt (code : ErrCode) (s : State) : (abort code s).waitCnt = s.waitCnt := rfl
@[simp] theorem abort_pollCnt (code : ErrCode) (s : State) : (abort code s).pollCnt = s.pollCnt := rfl
@[simp] theorem abort_blk (code : ErrCode) (s : State) : (abort code s).blk = s.blk := rfl
@[simp] theorem abort_req (code : ErrCode) (s : State) : (abort code s).req = s.req := rfl
@[simp] theorem abort_devAddr (code : ErrCode) (s : State) : (abort code s).devAddr = s.devAddr := rfl
@[simp] theorem abort_sensA (code : ErrCode) (s : State) : (abort code s).sensA = s.sensA := rfl
@[simp] theorem abort_sensB (code : ErrCode) (s : State) : (abort code s).sensB = s.sensB := rfl
@[simp] theorem abort_sensC (code : ErrCode) (s : State) : (abort code s).sensC = s.sensC := rfl
@[simp] theorem abort_settleMs (code : ErrCode) (s : State) : (abort code s).settleMs = s.settleMs := rfl
@[simp] theorem abort_procMarginMs (code : ErrCode) (s : State) : (abort code s).procMarginMs = s.procMarginMs := rfl
@[simp] theorem abort_pollIntervalMs (code : ErrCode) (s : State) : (abort code s).pollIntervalMs = s.pollIntervalMs := rfl
@[simp] theorem abort_dev (code : ErrCode) (s : State) : (abort code s).dev = s.dev := rfl
@[simp] theorem abort_abandoned (code : ErrCode) (s : State) : (abort code s).abandoned = s.abandoned := rfl
@[simp] theorem abort_hostRdata (code : ErrCode) (s : State) : (abort code s).hostRdata = s.hostRdata := rfl
@[simp] theorem abort_offer (code : ErrCode) (s : State) : (abort code s).offer = s.offer := rfl
@[simp] theorem abort_schedule (code : ErrCode) (s : State) : (abort code s).schedule = s.schedule := rfl

/-! `abortArb` -/

@[simp] theorem abortArb_busy (s : State) : (abortArb s).busy = false := rfl
@[simp] theorem abortArb_done (s : State) : (abortArb s).done = true := rfl
@[simp] theorem abortArb_initOk (s : State) : (abortArb s).initOk = false := rfl
@[simp] theorem abortArb_valid (s : State) : (abortArb s).valid = s.valid := rfl
@[simp] theorem abortArb_degraded (s : State) : (abortArb s).degraded = s.degraded := rfl
@[simp] theorem abortArb_idWarn (s : State) : (abortArb s).idWarn = s.idWarn := rfl
@[simp] theorem abortArb_ovr (s : State) : (abortArb s).ovr = s.ovr := rfl
@[simp] theorem abortArb_err (s : State) : (abortArb s).err = .arbViolation := rfl
@[simp] theorem abortArb_satA (s : State) : (abortArb s).satA = s.satA := rfl
@[simp] theorem abortArb_satB (s : State) : (abortArb s).satB = s.satB := rfl
@[simp] theorem abortArb_satC (s : State) : (abortArb s).satC = s.satC := rfl
@[simp] theorem abortArb_ds (s : State) : (abortArb s).ds = s.ds := rfl
@[simp] theorem abortArb_reqPending (s : State) : (abortArb s).reqPending = false := rfl
@[simp] theorem abortArb_phase (s : State) : (abortArb s).phase = .idle := rfl
@[simp] theorem abortArb_failPhase (s : State) : (abortArb s).failPhase = s.phase := rfl
@[simp] theorem abortArb_gainCode (s : State) : (abortArb s).gainCode = s.gainCode := rfl
@[simp] theorem abortArb_timeCode (s : State) : (abortArb s).timeCode = s.timeCode := rfl
@[simp] theorem abortArb_devId (s : State) : (abortArb s).devId = s.devId := rfl
@[simp] theorem abortArb_gainFactor (s : State) : (abortArb s).gainFactor = s.gainFactor := rfl
@[simp] theorem abortArb_intTimeMs (s : State) : (abortArb s).intTimeMs = s.intTimeMs := rfl
@[simp] theorem abortArb_rawTemp (s : State) : (abortArb s).rawTemp = s.rawTemp := rfl
@[simp] theorem abortArb_rawA (s : State) : (abortArb s).rawA = s.rawA := rfl
@[simp] theorem abortArb_rawB (s : State) : (abortArb s).rawB = s.rawB := rfl
@[simp] theorem abortArb_rawC (s : State) : (abortArb s).rawC = s.rawC := rfl
@[simp] theorem abortArb_irrA (s : State) : (abortArb s).irrA = s.irrA := rfl
@[simp] theorem abortArb_irrB (s : State) : (abortArb s).irrB = s.irrB := rfl
@[simp] theorem abortArb_irrC (s : State) : (abortArb s).irrC = s.irrC := rfl
@[simp] theorem abortArb_temp (s : State) : (abortArb s).temp = s.temp := rfl
@[simp] theorem abortArb_waitCnt (s : State) : (abortArb s).waitCnt = s.waitCnt := rfl
@[simp] theorem abortArb_pollCnt (s : State) : (abortArb s).pollCnt = s.pollCnt := rfl
@[simp] theorem abortArb_blk (s : State) : (abortArb s).blk = s.blk := rfl
@[simp] theorem abortArb_req (s : State) : (abortArb s).req = s.req := rfl
@[simp] theorem abortArb_devAddr (s : State) : (abortArb s).devAddr = s.devAddr := rfl
@[simp] theorem abortArb_sensA (s : State) : (abortArb s).sensA = s.sensA := rfl
@[simp] theorem abortArb_sensB (s : State) : (abortArb s).sensB = s.sensB := rfl
@[simp] theorem abortArb_sensC (s : State) : (abortArb s).sensC = s.sensC := rfl
@[simp] theorem abortArb_settleMs (s : State) : (abortArb s).settleMs = s.settleMs := rfl
@[simp] theorem abortArb_procMarginMs (s : State) : (abortArb s).procMarginMs = s.procMarginMs := rfl
@[simp] theorem abortArb_pollIntervalMs (s : State) : (abortArb s).pollIntervalMs = s.pollIntervalMs := rfl
@[simp] theorem abortArb_dev (s : State) : (abortArb s).dev = s.dev := rfl
@[simp] theorem abortArb_abandoned (s : State) : (abortArb s).abandoned = s.abandoned := rfl
@[simp] theorem abortArb_hostRdata (s : State) : (abortArb s).hostRdata = s.hostRdata := rfl
@[simp] theorem abortArb_offer (s : State) : (abortArb s).offer = s.offer := rfl
@[simp] theorem abortArb_schedule (s : State) : (abortArb s).schedule = s.schedule := rfl

/-! `placeRequest` -/

@[simp] theorem placeRequest_busy (t : Descriptor) (s : State) : (placeRequest t s).busy = s.busy := rfl
@[simp] theorem placeRequest_done (t : Descriptor) (s : State) : (placeRequest t s).done = s.done := rfl
@[simp] theorem placeRequest_initOk (t : Descriptor) (s : State) : (placeRequest t s).initOk = s.initOk := rfl
@[simp] theorem placeRequest_valid (t : Descriptor) (s : State) : (placeRequest t s).valid = s.valid := rfl
@[simp] theorem placeRequest_degraded (t : Descriptor) (s : State) : (placeRequest t s).degraded = s.degraded := rfl
@[simp] theorem placeRequest_idWarn (t : Descriptor) (s : State) : (placeRequest t s).idWarn = s.idWarn := rfl
@[simp] theorem placeRequest_ovr (t : Descriptor) (s : State) : (placeRequest t s).ovr = s.ovr := rfl
@[simp] theorem placeRequest_err (t : Descriptor) (s : State) : (placeRequest t s).err = s.err := rfl
@[simp] theorem placeRequest_satA (t : Descriptor) (s : State) : (placeRequest t s).satA = s.satA := rfl
@[simp] theorem placeRequest_satB (t : Descriptor) (s : State) : (placeRequest t s).satB = s.satB := rfl
@[simp] theorem placeRequest_satC (t : Descriptor) (s : State) : (placeRequest t s).satC = s.satC := rfl
@[simp] theorem placeRequest_ds (t : Descriptor) (s : State) : (placeRequest t s).ds = s.ds := rfl
@[simp] theorem placeRequest_reqPending (t : Descriptor) (s : State) : (placeRequest t s).reqPending = true := rfl
@[simp] theorem placeRequest_phase (t : Descriptor) (s : State) : (placeRequest t s).phase = s.phase := rfl
@[simp] theorem placeRequest_failPhase (t : Descriptor) (s : State) : (placeRequest t s).failPhase = s.failPhase := rfl
@[simp] theorem placeRequest_gainCode (t : Descriptor) (s : State) : (placeRequest t s).gainCode = s.gainCode := rfl
@[simp] theorem placeRequest_timeCode (t : Descriptor) (s : State) : (placeRequest t s).timeCode = s.timeCode := rfl
@[simp] theorem placeRequest_devId (t : Descriptor) (s : State) : (placeRequest t s).devId = s.devId := rfl
@[simp] theorem placeRequest_gainFactor (t : Descriptor) (s : State) : (placeRequest t s).gainFactor = s.gainFactor := rfl
@[simp] theorem placeRequest_intTimeMs (t : Descriptor) (s : State) : (placeRequest t s).intTimeMs = s.intTimeMs := rfl
@[simp] theorem placeRequest_rawTemp (t : Descriptor) (s : State) : (placeRequest t s).rawTemp = s.rawTemp := rfl
@[simp] theorem placeRequest_rawA (t : Descriptor) (s : State) : (placeRequest t s).rawA = s.rawA := rfl
@[simp] theorem placeRequest_rawB (t : Descriptor) (s : State) : (placeRequest t s).rawB = s.rawB := rfl
@[simp] theorem placeRequest_rawC (t : Descriptor) (s : State) : (placeRequest t s).rawC = s.rawC := rfl
@[simp] theorem placeRequest_irrA (t : Descriptor) (s : State) : (placeRequest t s).irrA = s.irrA := rfl
@[simp] theorem placeRequest_irrB (t : Descriptor) (s : State) : (placeRequest t s).irrB = s.irrB := rfl
@[simp] theorem placeRequest_irrC (t : Descriptor) (s : State) : (placeRequest t s).irrC = s.irrC := rfl
@[simp] theorem placeRequest_temp (t : Descriptor) (s : State) : (placeRequest t s).temp = s.temp := rfl
@[simp] theorem placeRequest_waitCnt (t : Descriptor) (s : State) : (placeRequest t s).waitCnt = s.waitCnt := rfl
@[simp] theorem placeRequest_pollCnt (t : Descriptor) (s : State) : (placeRequest t s).pollCnt = s.pollCnt := rfl
@[simp] theorem placeRequest_blk (t : Descriptor) (s : State) : (placeRequest t s).blk = s.blk := rfl
@[simp] theorem placeRequest_req (t : Descriptor) (s : State) : (placeRequest t s).req = t := rfl
@[simp] theorem placeRequest_devAddr (t : Descriptor) (s : State) : (placeRequest t s).devAddr = s.devAddr := rfl
@[simp] theorem placeRequest_sensA (t : Descriptor) (s : State) : (placeRequest t s).sensA = s.sensA := rfl
@[simp] theorem placeRequest_sensB (t : Descriptor) (s : State) : (placeRequest t s).sensB = s.sensB := rfl
@[simp] theorem placeRequest_sensC (t : Descriptor) (s : State) : (placeRequest t s).sensC = s.sensC := rfl
@[simp] theorem placeRequest_settleMs (t : Descriptor) (s : State) : (placeRequest t s).settleMs = s.settleMs := rfl
@[simp] theorem placeRequest_procMarginMs (t : Descriptor) (s : State) : (placeRequest t s).procMarginMs = s.procMarginMs := rfl
@[simp] theorem placeRequest_pollIntervalMs (t : Descriptor) (s : State) : (placeRequest t s).pollIntervalMs = s.pollIntervalMs := rfl
@[simp] theorem placeRequest_dev (t : Descriptor) (s : State) : (placeRequest t s).dev = s.dev := rfl
@[simp] theorem placeRequest_abandoned (t : Descriptor) (s : State) : (placeRequest t s).abandoned = s.abandoned := rfl
@[simp] theorem placeRequest_hostRdata (t : Descriptor) (s : State) : (placeRequest t s).hostRdata = s.hostRdata := rfl
@[simp] theorem placeRequest_offer (t : Descriptor) (s : State) : (placeRequest t s).offer = s.offer := rfl
@[simp] theorem placeRequest_schedule (t : Descriptor) (s : State) : (placeRequest t s).schedule = s.schedule := rfl

/-! `commitResults` -/

@[simp] theorem commitResults_busy (s : State) : (commitResults s).busy = s.busy := rfl
@[simp] theorem commitResults_done (s : State) : (commitResults s).done = s.done := rfl
@[simp] theorem commitResults_initOk (s : State) : (commitResults s).initOk = s.initOk := rfl
@[simp] theorem commitResults_valid (s : State) : (commitResults s).valid = true := rfl
@[simp] theorem commitResults_degraded (s : State) : (commitResults s).degraded = s.degraded := rfl
@[simp] theorem commitResults_idWarn (s : State) : (commitResults s).idWarn = s.idWarn := rfl
@[simp] theorem commitResults_ovr (s : State) : (commitResults s).ovr = s.ovr := rfl
@[simp] theorem commitResults_err (s : State) : (commitResults s).err = s.err := rfl
@[simp] theorem commitResults_satA (s : State) : (commitResults s).satA = (irradiance (decodeBlock s.blk).a s.sensA s.gainFactor s.intTimeMs).2 := rfl
@[simp] theorem commitResults_satB (s : State) : (commitResults s).satB = (irradiance (decodeBlock s.blk).b s.sensB s.gainFactor s.intTimeMs).2 := rfl
@[simp] theorem commitResults_satC (s : State) : (commitResults s).satC = (irradiance (decodeBlock s.blk).c s.sensC s.gainFactor s.intTimeMs).2 := rfl
@[simp] theorem commitResults_ds (s : State) : (commitResults s).ds = s.ds := rfl
@[simp] theorem commitResults_reqPending (s : State) : (commitResults s).reqPending = s.reqPending := rfl
@[simp] theorem commitResults_phase (s : State) : (commitResults s).phase = s.phase := rfl
@[simp] theorem commitResults_failPhase (s : State) : (commitResults s).failPhase = s.failPhase := rfl
@[simp] theorem commitResults_gainCode (s : State) : (commitResults s).gainCode = s.gainCode := rfl
@[simp] theorem commitResults_timeCode (s : State) : (commitResults s).timeCode = s.timeCode := rfl
@[simp] theorem commitResults_devId (s : State) : (commitResults s).devId = s.devId := rfl
@[simp] theorem commitResults_gainFactor (s : State) : (commitResults s).gainFactor = s.gainFactor := rfl
@[simp] theorem commitResults_intTimeMs (s : State) : (commitResults s).intTimeMs = s.intTimeMs := rfl
@[simp] theorem commitResults_rawTemp (s : State) : (commitResults s).rawTemp = (decodeBlock s.blk).temp := rfl
@[simp] theorem commitResults_rawA (s : State) : (commitResults s).rawA = (decodeBlock s.blk).a := rfl
@[simp] theorem commitResults_rawB (s : State) : (commitResults s).rawB = (decodeBlock s.blk).b := rfl
@[simp] theorem commitResults_rawC (s : State) : (commitResults s).rawC = (decodeBlock s.blk).c := rfl
@[simp] theorem commitResults_irrA (s : State) : (commitResults s).irrA = (irradiance (decodeBlock s.blk).a s.sensA s.gainFactor s.intTimeMs).1 := rfl
@[simp] theorem commitResults_irrB (s : State) : (commitResults s).irrB = (irradiance (decodeBlock s.blk).b s.sensB s.gainFactor s.intTimeMs).1 := rfl
@[simp] theorem commitResults_irrC (s : State) : (commitResults s).irrC = (irradiance (decodeBlock s.blk).c s.sensC s.gainFactor s.intTimeMs).1 := rfl
@[simp] theorem commitResults_temp (s : State) : (commitResults s).temp = temperature (decodeBlock s.blk).temp := rfl
@[simp] theorem commitResults_waitCnt (s : State) : (commitResults s).waitCnt = s.waitCnt := rfl
@[simp] theorem commitResults_pollCnt (s : State) : (commitResults s).pollCnt = s.pollCnt := rfl
@[simp] theorem commitResults_blk (s : State) : (commitResults s).blk = s.blk := rfl
@[simp] theorem commitResults_req (s : State) : (commitResults s).req = s.req := rfl
@[simp] theorem commitResults_devAddr (s : State) : (commitResults s).devAddr = s.devAddr := rfl
@[simp] theorem commitResults_sensA (s : State) : (commitResults s).sensA = s.sensA := rfl
@[simp] theorem commitResults_sensB (s : State) : (commitResults s).sensB = s.sensB := rfl
@[simp] theorem commitResults_sensC (s : State) : (commitResults s).sensC = s.sensC := rfl
@[simp] theorem commitResults_settleMs (s : State) : (commitResults s).settleMs = s.settleMs := rfl
@[simp] theorem commitResults_procMarginMs (s : State) : (commitResults s).procMarginMs = s.procMarginMs := rfl
@[simp] theorem commitResults_pollIntervalMs (s : State) : (commitResults s).pollIntervalMs = s.pollIntervalMs := rfl
@[simp] theorem commitResults_dev (s : State) : (commitResults s).dev = s.dev := rfl
@[simp] theorem commitResults_abandoned (s : State) : (commitResults s).abandoned = s.abandoned := rfl
@[simp] theorem commitResults_hostRdata (s : State) : (commitResults s).hostRdata = s.hostRdata := rfl
@[simp] theorem commitResults_offer (s : State) : (commitResults s).offer = s.offer := rfl
@[simp] theorem commitResults_schedule (s : State) : (commitResults s).schedule = s.schedule := rfl

/-! `blockReset` -/

@[simp] theorem blockReset_busy (s : State) : (blockReset s).busy = false := rfl
@[simp] theorem blockReset_done (s : State) : (blockReset s).done = false := rfl
@[simp] theorem blockReset_initOk (s : State) : (blockReset s).initOk = false := rfl
@[simp] theorem blockReset_valid (s : State) : (blockReset s).valid = false := rfl
@[simp] theorem blockReset_degraded (s : State) : (blockReset s).degraded = false := rfl
@[simp] theorem blockReset_idWarn (s : State) : (blockReset s).idWarn = false := rfl
@[simp] theorem blockReset_ovr (s : State) : (blockReset s).ovr = false := rfl
@[simp] theorem blockReset_err (s : State) : (blockReset s).err = .none := rfl
@[simp] theorem blockReset_satA (s : State) : (blockReset s).satA = false := rfl
@[simp] theorem blockReset_satB (s : State) : (blockReset s).satB = false := rfl
@[simp] theorem blockReset_satC (s : State) : (blockReset s).satC = false := rfl
@[simp] theorem blockReset_ds (s : State) : (blockReset s).ds = .off := rfl
@[simp] theorem blockReset_reqPending (s : State) : (blockReset s).reqPending = false := rfl
@[simp] theorem blockReset_phase (s : State) : (blockReset s).phase = .idle := rfl
@[simp] theorem blockReset_failPhase (s : State) : (blockReset s).failPhase = .idle := rfl
@[simp] theorem blockReset_gainCode (s : State) : (blockReset s).gainCode = 0#4 := rfl
@[simp] theorem blockReset_timeCode (s : State) : (blockReset s).timeCode = 0#4 := rfl
@[simp] theorem blockReset_devId (s : State) : (blockReset s).devId = 0#8 := rfl
@[simp] theorem blockReset_gainFactor (s : State) : (blockReset s).gainFactor = 0#16 := rfl
@[simp] theorem blockReset_intTimeMs (s : State) : (blockReset s).intTimeMs = 0#16 := rfl
@[simp] theorem blockReset_rawTemp (s : State) : (blockReset s).rawTemp = 0#16 := rfl
@[simp] theorem blockReset_rawA (s : State) : (blockReset s).rawA = 0#16 := rfl
@[simp] theorem blockReset_rawB (s : State) : (blockReset s).rawB = 0#16 := rfl
@[simp] theorem blockReset_rawC (s : State) : (blockReset s).rawC = 0#16 := rfl
@[simp] theorem blockReset_irrA (s : State) : (blockReset s).irrA = 0#32 := rfl
@[simp] theorem blockReset_irrB (s : State) : (blockReset s).irrB = 0#32 := rfl
@[simp] theorem blockReset_irrC (s : State) : (blockReset s).irrC = 0#32 := rfl
@[simp] theorem blockReset_temp (s : State) : (blockReset s).temp = 0#32 := rfl
@[simp] theorem blockReset_waitCnt (s : State) : (blockReset s).waitCnt = 0#16 := rfl
@[simp] theorem blockReset_pollCnt (s : State) : (blockReset s).pollCnt = 0#16 := rfl
@[simp] theorem blockReset_blk (s : State) : (blockReset s).blk = Block.zero := rfl
@[simp] theorem blockReset_req (s : State) : (blockReset s).req = 0#24 := rfl
@[simp] theorem blockReset_devAddr (s : State) : (blockReset s).devAddr = s.devAddr := rfl
@[simp] theorem blockReset_sensA (s : State) : (blockReset s).sensA = s.sensA := rfl
@[simp] theorem blockReset_sensB (s : State) : (blockReset s).sensB = s.sensB := rfl
@[simp] theorem blockReset_sensC (s : State) : (blockReset s).sensC = s.sensC := rfl
@[simp] theorem blockReset_settleMs (s : State) : (blockReset s).settleMs = s.settleMs := rfl
@[simp] theorem blockReset_procMarginMs (s : State) : (blockReset s).procMarginMs = s.procMarginMs := rfl
@[simp] theorem blockReset_pollIntervalMs (s : State) : (blockReset s).pollIntervalMs = s.pollIntervalMs := rfl
@[simp] theorem blockReset_dev (s : State) : (blockReset s).dev = s.dev := rfl
@[simp] theorem blockReset_abandoned (s : State) : (blockReset s).abandoned = if s.reqPending then s.abandoned ++ [s.req] else s.abandoned := rfl
@[simp] theorem blockReset_hostRdata (s : State) : (blockReset s).hostRdata = s.hostRdata := rfl
@[simp] theorem blockReset_offer (s : State) : (blockReset s).offer = s.offer := rfl
@[simp] theorem blockReset_schedule (s : State) : (blockReset s).schedule = s.schedule := rfl

end Sys2Proof.Machine
end

