-- ==== Sys2Proof/Laws/Ops.lean ====
section
/-! SUPPORT. What the shared operations can do, each said once: the arbiter's check on the listed descriptors, `issue`, a write
to `CMD`, the two host accesses, and `exec` of everything HOST can ask for. -/

namespace Sys2Proof.Machine

/-- The offset check is divisibility by 4. -/
theorem offsetAligned_iff (off : Byte) : offsetAligned off = true ↔ off.toNat % 4 = 0 := by
  revert off; decide

/-- WR_OSR_CFG is admitted in every declared state. -/
theorem txnValid_wrOsrCfg (ds : DState) : txnValid ds descWrOsrCfg = true := by cases ds <;> decide

/-- WR_OSR_TRIG is admitted in every declared state. -/
theorem txnValid_wrOsrTrig (ds : DState) : txnValid ds descWrOsrTrig = true := by cases ds <;> decide

/-- RD_ID is admitted in Configuration only. -/
theorem txnValid_rdId (ds : DState) : txnValid ds descRdId = true ↔ ds = .config := by cases ds <;> decide

/-- WR_CTRL1 is admitted in Configuration only. -/
theorem txnValid_wrCtrl1 (ds : DState) (g t : Code) : txnValid ds (descWrCtrl1 g t) = true ↔ ds = .config := by
  cases ds <;> revert g t <;> decide

/-- WR_CTRL2 is admitted in Configuration only. -/
theorem txnValid_wrCtrl2 (ds : DState) : txnValid ds descWrCtrl2 = true ↔ ds = .config := by cases ds <;> decide

/-- RD_STATUS is admitted everywhere but in Off. -/
theorem txnValid_rdStatus (ds : DState) : txnValid ds descRdStatus = true ↔ ds ≠ .off := by cases ds <;> decide

/-- RD_RESULTS is admitted in Measurement only. -/
theorem txnValid_rdResults (ds : DState) : txnValid ds descRdResults = true ↔ ds.cls = .meas := by cases ds <;> decide

/-- An admitted descriptor is placed. -/
theorem issue_of_valid {t : Descriptor} {s : State} (h : txnValid s.ds t = true) : issue t s = placeRequest t s := by
  simp [issue, h]

/-- A refused descriptor ends the command. -/
theorem issue_of_invalid {t : Descriptor} {s : State} (h : txnValid s.ds t = false) : issue t s = abortArb s := by
  simp [issue, h]

/-- `issue` does one of two things. -/
theorem issue_cases (t : Descriptor) (s : State) :
    txnValid s.ds t = true ∧ issue t s = placeRequest t s ∨ txnValid s.ds t = false ∧ issue t s = abortArb s := by
  cases h : txnValid s.ds t <;> simp [issue, h]

/-- `issue` never looks at the device. -/
theorem issue_withDev (t : Descriptor) (s : State) (d : Device) :
    issue t { s with dev := d } = { issue t s with dev := d } := by
  unfold issue; dsimp only; split <;> rfl

/-- `issue` leaves the parameters, the device and the model's own fields alone. -/
@[simp] theorem issue_devAddr (t : Descriptor) (s : State) : (issue t s).devAddr = s.devAddr := by unfold issue; split <;> rfl
@[simp] theorem issue_sensA (t : Descriptor) (s : State) : (issue t s).sensA = s.sensA := by unfold issue; split <;> rfl
@[simp] theorem issue_sensB (t : Descriptor) (s : State) : (issue t s).sensB = s.sensB := by unfold issue; split <;> rfl
@[simp] theorem issue_sensC (t : Descriptor) (s : State) : (issue t s).sensC = s.sensC := by unfold issue; split <;> rfl
@[simp] theorem issue_settleMs (t : Descriptor) (s : State) : (issue t s).settleMs = s.settleMs := by
  unfold issue; split <;> rfl
@[simp] theorem issue_procMarginMs (t : Descriptor) (s : State) : (issue t s).procMarginMs = s.procMarginMs := by
  unfold issue; split <;> rfl
@[simp] theorem issue_pollIntervalMs (t : Descriptor) (s : State) : (issue t s).pollIntervalMs = s.pollIntervalMs := by
  unfold issue; split <;> rfl
@[simp] theorem issue_dev (t : Descriptor) (s : State) : (issue t s).dev = s.dev := by unfold issue; split <;> rfl
@[simp] theorem issue_abandoned (t : Descriptor) (s : State) : (issue t s).abandoned = s.abandoned := by
  unfold issue; split <;> rfl
@[simp] theorem issue_hostRdata (t : Descriptor) (s : State) : (issue t s).hostRdata = s.hostRdata := by
  unfold issue; split <;> rfl
@[simp] theorem issue_offer (t : Descriptor) (s : State) : (issue t s).offer = s.offer := by unfold issue; split <;> rfl
@[simp] theorem issue_schedule (t : Descriptor) (s : State) : (issue t s).schedule = s.schedule := by
  unfold issue; split <;> rfl

/-- An accepted INIT is always sent. -/
theorem acceptInit_eq (gain time : Code) (s : State) :
    acceptInit gain time s = placeRequest descWrOsrCfg
      { beginCommand s with initOk := false, idWarn := false, gainCode := gain, timeCode := time, phase := .iWrOsr } :=
  issue_of_valid (txnValid_wrOsrCfg _)

/-- An accepted READ is always sent. -/
theorem acceptRead_eq (s : State) : acceptRead s = placeRequest descWrOsrTrig { beginCommand s with phase := .rWrTrig } :=
  issue_of_valid (txnValid_wrOsrTrig _)

/-- A write to `CMD` does one of five things. -/
theorem commandWrite_cases (w : Word) (s : State) :
    commandWrite w s = s
    ∨ s.busy = true ∧ commandWrite w s = dropCommand s
    ∨ s.busy = false ∧ commandWrite w s = acceptInit (cmdGain w) (cmdTime w) s
    ∨ s.busy = false ∧ s.initOk = true ∧ commandWrite w s = acceptRead s
    ∨ s.busy = false ∧ ∃ code, (code = .illegalCmd ∨ code = .notInit ∧ s.initOk = false)
        ∧ commandWrite w s = rejectCommand code s := by
  unfold commandWrite
  split
  · exact .inl rfl
  split <;> rename_i hb
  · exact .inr (.inl ⟨hb, rfl⟩)
  replace hb : s.busy = false := by simpa using hb
  split
  · exact .inr (.inr (.inl ⟨hb, rfl⟩))
  split
  · exact .inr (.inr (.inr (.inr ⟨hb, _, .inr ⟨rfl, (‹_ ∧ _›).2⟩, rfl⟩)))
  split
  · exact .inr (.inr (.inr (.inl ⟨hb, by simp_all, rfl⟩)))
  · exact .inr (.inr (.inr (.inr ⟨hb, _, .inl rfl, rfl⟩)))

/-- A host write is refused, or is a write to `CMD` or to `STATUS`, or does nothing. -/
theorem hostWrite_cases (off : Byte) (w : Word) (s : State) :
    offsetAligned off = false ∧ hostWrite off w s = .refused .misalignedAccess
    ∨ hostWrite off w s = .next (commandWrite w s)
    ∨ hostWrite off w s = .next (clearStatus w s)
    ∨ hostWrite off w s = .next s := by
  unfold hostWrite; repeat' split
  all_goals simp_all

/-- The instructions that are transactions, which only the sequencer runs. -/
def isTransactionInstr : Instr → Bool
  | .nop | .init _ _ | .read | .rsv3 | .rsv4to7 _ | .rsv8to15 _ => false
  | .hwrCmd _ | .hwrStatus _ | .hwrOther _ _ | .hrd _ => false
  | .wrOsrCfg | .wrOsrTrig | .rdId | .wrCtrl1 _ _ | .wrCtrl2 | .rdStatus | .rdResults => true

/-- What a host access decodes to is no transaction. -/
theorem decodeAccess_notTransaction {width : Nat} {desc : BitVec 9} {w : Word} {i : Instr}
    (h : decodeAccess width desc w = .ok i) : isTransactionInstr i = false := by
  unfold decodeAccess at h
  repeat' split at h
  all_goals simp at h
  all_goals subst h; rfl

/-- A transaction is one `issue`. -/
theorem exec_transaction {i : Instr} (s : State) (h : isTransactionInstr i = true) : ∃ t, exec i s = .next (issue t s) := by
  cases i <;> simp [isTransactionInstr] at h <;> exact ⟨_, rfl⟩

end Sys2Proof.Machine
end

