-- ==== Sys2Proof/Laws/PerInstr.lean ====
section
/-! SUPPORT. The statements made per instruction: the encoder leaves every ignored or reserved bit 0 (30_encoding R90, R93, R105). -/

namespace Sys2Proof.Laws

/-- The ignored bits of a command word are 0, but for the bits of `GAIN` and `TIME`. -/
abbrev reservedZeroCmd (w : Word) : Prop := w.extractLsb' 16 16 = 0#16 ∧ w.extractLsb' 4 4 = 0#4

/-- The reserved bits of a descriptor are 0, its kind is not 3, and only a block read has a length. -/
abbrev reservedZeroTxn (d : Descriptor) : Prop :=
  Machine.txnRsv d = 0#3 ∧ Machine.txnKind d ≠ 0b11#2 ∧ (Machine.txnKind d ≠ 0b10#2 → Machine.txnLenM1 d = 0#3)

/-- The encoding has 0 in every bit its format ignores or reserves; a host access is 32 bits wide, and its offset is aligned if
the instruction is well-formed. -/
def ReservedZero.Statement (i : Instr) : Prop :=
  match encode i with
  | .cmd w => reservedZeroCmd w
  | .access width desc _ => width = 32 ∧ (i.wf = true → desc.extractLsb' 0 2 = 0#2)
  | .txn d => reservedZeroTxn d

theorem ReservedZero.nop : ReservedZero.Statement .nop := by
  unfold ReservedZero.Statement; exact ⟨rfl, rfl⟩

theorem ReservedZero.init (gain time : Code) : ReservedZero.Statement (.init gain time) := by
  have : ∀ gain time, reservedZeroCmd (cmdWord time gain 1#4) := by decide
  exact this gain time

theorem ReservedZero.read : ReservedZero.Statement .read := by
  unfold ReservedZero.Statement; exact ⟨rfl, rfl⟩

theorem ReservedZero.rsv3 : ReservedZero.Statement .rsv3 := by
  unfold ReservedZero.Statement; exact ⟨rfl, rfl⟩

theorem ReservedZero.rsv4to7 (op : BitVec 2) : ReservedZero.Statement (.rsv4to7 op) := by
  have : ∀ op : BitVec 2, reservedZeroCmd (cmdWord 0 0 (0b01#2 ++ op)) := by decide
  exact this op

theorem ReservedZero.rsv8to15 (op : BitVec 3) : ReservedZero.Statement (.rsv8to15 op) := by
  have : ∀ op : BitVec 3, reservedZeroCmd (cmdWord 0 0 (1#1 ++ op)) := by decide
  exact this op

theorem ReservedZero.hwrCmd (wdata : Word) : ReservedZero.Statement (.hwrCmd wdata) := ⟨rfl, fun _ => rfl⟩

theorem ReservedZero.hwrStatus (wdata : Word) : ReservedZero.Statement (.hwrStatus wdata) := ⟨rfl, fun _ => rfl⟩

theorem ReservedZero.hwrOther (off : Byte) (wdata : Word) : ReservedZero.Statement (.hwrOther off wdata) := by
  refine ⟨rfl, fun h => ?_⟩
  have : ∀ off : Byte, offsetAligned off = true → (1#1 ++ off : BitVec 9).extractLsb' 0 2 = 0#2 := by decide
  simp only [Instr.wf, Bool.and_eq_true] at h
  exact this off h.1.1

theorem ReservedZero.hrd (off : Byte) : ReservedZero.Statement (.hrd off) := by
  refine ⟨rfl, fun h => ?_⟩
  have : ∀ off : Byte, offsetAligned off = true → (0#1 ++ off : BitVec 9).extractLsb' 0 2 = 0#2 := by decide
  exact this off h

theorem ReservedZero.wrOsrCfg : ReservedZero.Statement .wrOsrCfg :=
  (by decide : reservedZeroTxn descWrOsrCfg)

theorem ReservedZero.wrOsrTrig : ReservedZero.Statement .wrOsrTrig :=
  (by decide : reservedZeroTxn descWrOsrTrig)

theorem ReservedZero.rdId : ReservedZero.Statement .rdId :=
  (by decide : reservedZeroTxn descRdId)

theorem ReservedZero.wrCtrl1 (gain time : Code) : ReservedZero.Statement (.wrCtrl1 gain time) := by
  have : ∀ gain time, reservedZeroTxn (descWrCtrl1 gain time) := by decide
  exact this gain time

theorem ReservedZero.wrCtrl2 : ReservedZero.Statement .wrCtrl2 :=
  (by decide : reservedZeroTxn descWrCtrl2)

theorem ReservedZero.rdStatus : ReservedZero.Statement .rdStatus :=
  (by decide : reservedZeroTxn descRdStatus)

theorem ReservedZero.rdResults : ReservedZero.Statement .rdResults :=
  (by decide : reservedZeroTxn descRdResults)

end Sys2Proof.Laws
end

