-- ==== Sys2Proof/Laws/Sequencer.lean ====
section
/-! SUPPORT. The counters and the factors the sequencer and the conversion engine compute with. -/

namespace Sys2Proof.Machine

/-- The poll counter stays at its top. -/
theorem saturatingIncrement_toNat (v : Count) : (saturatingIncrement v).toNat = min (v.toNat + 1) 0xFFFF := by
  unfold saturatingIncrement
  split
  · rename_i h; subst h; rfl
  · rename_i h
    have : v.toNat ≠ 0xFFFF := fun hh => h (BitVec.eq_of_toNat_eq hh)
    have := v.isLt
    simp; omega

/-- A wait that has not reached the top of its register counts by one. -/
theorem incrementWait_of_ne {v : Count} (h : v ≠ 0xFFFF#16) : incrementWait v = v + 1#16 := by simp [incrementWait, h]

/-- The same, as a number. -/
theorem incrementWait_toNat {v : Count} (h : v.toNat < 0xFFFF) : (incrementWait v).toNat = v.toNat + 1 := by
  have hv : v ≠ 0xFFFF#16 := by rintro rfl; simp at h
  rw [incrementWait_of_ne hv]; bv_omega

/-- The next value of a counter that has not wrapped. -/
theorem count_succ (n : Nat) : BitVec.ofNat 16 n + 1#16 = BitVec.ofNat 16 (n + 1) := by
  apply BitVec.eq_of_toNat_eq; simp

/-- A tick changes none of the parameters, and no field of the device. -/
theorem blockTick_params (s : State) :
    (blockTick s).settleMs = s.settleMs ∧ (blockTick s).procMarginMs = s.procMarginMs
    ∧ (blockTick s).pollIntervalMs = s.pollIntervalMs ∧ (blockTick s).dev = s.dev := by
  unfold blockTick
  split <;> try exact ⟨rfl, rfl, rfl, rfl⟩
  · unfold tickSettle; dsimp only; split <;> simp
  · unfold tickWait; dsimp only; split <;> simp
  · unfold tickPollWait; dsimp only; split <;> simp

/-- The integration time is at most 2^15 ticks. -/
theorem intTimeOf_le (c : Code) : (intTimeOf c).toNat ≤ 32768 := by revert c; decide

/-- Parameters that fit give the conversion wait a target that fits its counter, for every time code. -/
theorem timingFits_target {s : State} (h : timingFits s) (c : Code) :
    (intTimeOf c).toNat + s.procMarginMs.toNat ≤ 0xFFFF := by
  have := intTimeOf_le c
  have := h.2.1
  omega

/-- A wait below its target has not reached the top of its register. -/
theorem waitCnt_ne_top {s : State} {target : Nat} (h : s.waitCnt.toNat < target) (ht : target ≤ 0xFFFF) :
    s.waitCnt ≠ 0xFFFF#16 := by
  rintro hh; rw [hh] at h; simp at h; omega

/-- No factor is 0. -/
theorem factor_ne_zero (c : Code) : gainFactorOf c ≠ 0#16 ∧ intTimeOf c ≠ 0#16 := by revert c; decide

/-- The divisor of the conversion is positive when nothing in it is 0. -/
theorem divisor_pos {sens : Word} {g t : Count} (hs : sens ≠ 0#32) (hg : g ≠ 0#16) (ht : t ≠ 0#16) :
    0 < sens.toNat * g.toNat * t.toNat := by
  have pos : ∀ {n : Nat} (v : BitVec n), v ≠ 0#n → 0 < v.toNat := fun v hv =>
    Nat.pos_of_ne_zero fun h => hv (BitVec.eq_of_toNat_eq (by simpa using h))
  have := pos sens hs
  have := pos g hg
  have := pos t ht
  positivity

/-- A phase that no response can leave takes none. -/
theorem responseOk_of_not_transaction {s : State} (data : List Byte) (h : s.phase.isTransaction = false) :
    responseOk data s = .fault .responseNotAdmitted := by
  unfold responseOk; split <;> simp_all [Phase.isTransaction]

/-- An ok that is taken is one of the eight answers of the phases. -/
theorem responseOk_cases {data : List Byte} {s t : State} (h : responseOk data s = .next t) :
    s.phase = .iWrOsr ∧ data = [] ∧ t = afterInitOsr s
    ∨ s.phase = .iRdId ∧ (∃ d, data = [d] ∧ t = afterIdentity d s)
    ∨ s.phase = .iWrCtrl1 ∧ data = [] ∧ t = afterCtrl1 s
    ∨ s.phase = .iWrCtrl2 ∧ data = [] ∧ t = afterCtrl2 s
    ∨ s.phase = .rWrTrig ∧ data = [] ∧ t = afterTrigger s
    ∨ s.phase = .rPollRd ∧ (∃ d, data = [d] ∧ t = afterStatus d s)
    ∨ s.phase = .rBlkRd ∧ (∃ b : Block, data = b.bytes ∧ t = afterResults b s)
    ∨ s.phase = .rWrCfg ∧ data = [] ∧ t = afterReadOsr s := by
  unfold responseOk at h
  split at h <;> (try cases h) <;> simp only [onWritten, onByte, onBlock] at h <;> split at h <;> cases h
  · exact .inl ⟨‹_›, rfl, rfl⟩
  · exact .inr (.inl ⟨‹_›, _, rfl, rfl⟩)
  · exact .inr (.inr (.inl ⟨‹_›, rfl, rfl⟩))
  · exact .inr (.inr (.inr (.inl ⟨‹_›, rfl, rfl⟩)))
  · exact .inr (.inr (.inr (.inr (.inl ⟨‹_›, rfl, rfl⟩))))
  · exact .inr (.inr (.inr (.inr (.inr (.inl ⟨‹_›, _, rfl, rfl⟩)))))
  · exact .inr (.inr (.inr (.inr (.inr (.inr (.inl ⟨‹_›, ⟨_, _, _, _, _, _, _, _⟩, rfl, rfl⟩))))))
  · exact .inr (.inr (.inr (.inr (.inr (.inr (.inr ⟨‹_›, rfl, rfl⟩))))))

end Sys2Proof.Machine
end

