-- ==== Sys2Proof/Laws/Step.lean ====
section
/-! SUPPORT. What one step is, by the event that comes next. -/

namespace Sys2Proof.Machine

/-- No event left: nothing moves. -/
theorem step_of_empty {s : State} (ho : s.offer = none) (hs : s.schedule = []) : step s = .next s := by
  cases s; cases ho; cases hs; rfl

/-- An event of the environment. -/
theorem step_of_env {s : State} {e : EnvEvent} {rest : List Event} (ho : s.offer = none)
    (hs : s.schedule = .env e :: rest) : step s = environmentStep e { s with schedule := rest } := by
  cases s; cases ho; cases hs; rfl

/-- A host access that decodes. -/
theorem step_of_access {s : State} {width : Nat} {desc : BitVec 9} {w : Word} {i : Instr} {rest : List Event}
    (ho : s.offer = none) (hs : s.schedule = .host width desc w :: rest) (hd : decodeAccess width desc w = .ok i) :
    step s = exec i { s with schedule := rest } := by
  cases s; cases ho; cases hs; simp [step, fetch, fetchEvent, hd]

/-- A host access that does not decode. -/
theorem step_of_badAccess {s : State} {width : Nat} {desc : BitVec 9} {w : Word} {e : AccessError} {rest : List Event}
    (ho : s.offer = none) (hs : s.schedule = .host width desc w :: rest) (hd : decodeAccess width desc w = .error e) :
    step s = .refused (refusalOf e) := by
  cases s; cases ho; cases hs; simp [step, fetch, fetchEvent, hd]

/-- An offered descriptor that decodes. -/
theorem step_of_offer {s : State} {d : Descriptor} {i : Instr} (ho : s.offer = some d) (hd : decodeTxn d = .ok i) :
    step s = exec i { s with offer := none } := by
  cases s; cases ho; simp [step, fetch, fetchOffer, hd]

/-- An offered descriptor that is none of the seven. -/
theorem step_of_unlistedOffer {s : State} {d : Descriptor} {e : DecodeError} (ho : s.offer = some d)
    (hd : decodeTxn d = .error e) : step s = .next (issue d { s with offer := none }) := by
  cases s; cases ho; simp [step, fetch, fetchOffer, hd]

end Sys2Proof.Machine
end

