-- ==== Sys2Proof/Tests/Slice0.lean ====
section
/-! SUPPORT. Tests of the model: the vectors of 95_test_vectors, words written out from 30_encoding, and for every statement with
hypotheses a witness that meets them. Each test is one step, and looks at a field or two. -/

namespace Sys2Proof.Tests

open Sys2Proof.Machine

/-! ### States the tests start from -/

/-- A device in Configuration with gain 7 and time 7. -/
def configDevice : Device := ⟨.config, 0x77#8, 0x40#8, 0x00#8, 0x21#8, ⟨0, 0, 0, 0⟩, 0⟩

/-- The block after reset, with the test sensitivities of 95_test_vectors. -/
def fresh : State :=
  { State.reset with sensA := 19923#32, sensB := 0x10000#32, sensC := 0x8000#32, dev := configDevice }

/-- The end of program P1: INIT with gain 7 and time 7. -/
def ready : State :=
  { fresh with
    done := true, initOk := true, ds := .config, gainCode := 7#4, timeCode := 7#4, devId := 0x21#8
    gainFactor := 128#16, intTimeMs := 128#16 }

/-- INIT in a transaction phase. -/
def inInit (p : Phase) (ds : DState) (req : Descriptor) : State :=
  { fresh with
    busy := true, phase := p, ds := ds, reqPending := true, req := req, gainCode := 7#4, timeCode := 7#4 }

/-- INIT in its settle. -/
def settling (n : Count) : State := { inInit .iSettle .config 0x000002#24 with reqPending := false, waitCnt := n }

/-- The settle and the margin one tick longer than the source's (60_exceptions R301). -/
def slower (s : State) : State := { s with settleMs := 11#16, procMarginMs := 21#16 }

/-- READ in a transaction phase. -/
def inRead (p : Phase) (ds : DState) (req : Descriptor) : State :=
  { ready with busy := true, done := false, phase := p, ds := ds, reqPending := true, req := req }

/-- READ in a timed phase. -/
def waiting (p : Phase) (wait poll : Count) : State :=
  { inRead p .measConv 0x000083#24 with reqPending := false, waitCnt := wait, pollCnt := poll }

/-- READ with a status read outstanding. -/
def polling (poll : Count) : State := { inRead .rPollRd .measConv 0x400000#24 with pollCnt := poll }

/-- The block of vector X1. -/
def blockX1 : Block := ⟨0x00, 0x32, 0xE8, 0x03, 0xF4, 0x01, 0x00, 0x00⟩

/-- The sample of vector X1. -/
def sampleX1 : Sample := ⟨12800, 1000, 500, 0⟩

/-- READ returning to Configuration, with the device that gave the block. -/
def committing : State :=
  { inRead .rWrCfg .measReady 0x000002#24 with
    blk := blockX1, dev := { configDevice with mode := .measReady, sample := sampleX1 } }

/-- A field of the next state. -/
def after {α : Type} (r : Result) (f : State → α) : Option α :=
  match r with
  | .next t => some (f t)
  | .fault _ => none
  | .refused _ => none

/-- The step in which the event comes. -/
def run (e : Event) (s : State) : Result := step { s with schedule := [e] }

/-- A write to `CMD`. -/
def sendCmd (w : Word) (s : State) : Result := run (.host 32 0x100#9 w) s

/-- A write to `STATUS`. -/
def sendStatus (w : Word) (s : State) : Result := run (.host 32 0x104#9 w) s

/-- A choice of the environment. -/
def choice (ok : Bool) : Choice := ⟨ok, .notActed, Block.zero, ⟨.off, 0, 0, 0, ⟨0, 0, 0, 0⟩⟩⟩

/-! ### Well-formedness refuses (20_memory R65, 30_encoding R92) -/

theorem test_wf_read_misaligned : (Instr.hrd 0x02#8).wf = false := by decide
theorem test_wf_write_misaligned : (Instr.hwrOther 0x0A#8 0).wf = false := by decide
theorem test_wf_write_is_command : (Instr.hwrOther 0x00#8 0).wf = false := by decide
theorem test_wf_write_is_status : (Instr.hwrOther 0x04#8 0).wf = false := by decide

/-! ### Words written out from the spec's encodings decode to what they stand for -/

/-- `OP` 0 (R91). -/
theorem test_decode_nop : decode (.cmd 0b00000000000000000000000000000000#32) = .ok .nop := by decide
/-- `TIME` 0xB, `GAIN` 3, `OP` 1 (R90, vector D9). -/
theorem test_decode_init : decode (.cmd 0b00000000000000001011001100000001#32) = .ok (.init 3#4 11#4) := by decide
/-- `OP` 2 with every ignored bit set (R105, R130). -/
theorem test_decode_read : decode (.cmd 0b11111111111111111111111111110010#32) = .ok .read := by decide
theorem test_decode_rsv3 : decode (.cmd 0b00000000000000000000000000000011#32) = .ok .rsv3 := by decide
theorem test_decode_rsv4to7 : decode (.cmd 0b00000000000000000000000000000101#32) = .ok (.rsv4to7 1#2) := by decide
theorem test_decode_rsv8to15 : decode (.cmd 0b00000000000000000000000000001111#32) = .ok (.rsv8to15 7#3) := by decide
/-- `dir` 1, offset 0 (R92). -/
theorem test_decode_hwrCmd : decode (.access 32 0b100000000#9 2#32) = .ok (.hwrCmd 2#32) := by decide
theorem test_decode_hwrStatus : decode (.access 32 0b100000100#9 0x42#32) = .ok (.hwrStatus 0x42#32) := by decide
theorem test_decode_hwrOther : decode (.access 32 0b100011000#9 0#32) = .ok (.hwrOther 0x18#8 0#32) := by decide
theorem test_decode_hrd : decode (.access 32 0b000100100#9 0#32) = .ok (.hrd 0x24#8) := by decide
/-- `KIND`, `LENM1`, `RSV`, `REG`, `DATA` (R93, R95). -/
theorem test_decode_wrOsrCfg : decode (.txn 0b000000000000000000000010#24) = .ok .wrOsrCfg := by decide
theorem test_decode_wrOsrTrig : decode (.txn 0b000000000000000010000011#24) = .ok .wrOsrTrig := by decide
theorem test_decode_rdId : decode (.txn 0b010000000000001000000000#24) = .ok .rdId := by decide
theorem test_decode_wrCtrl1 : decode (.txn 0b000000000000011010110011#24) = .ok (.wrCtrl1 0xB#4 3#4) := by decide
theorem test_decode_wrCtrl2 : decode (.txn 0b000000000000100001000000#24) = .ok .wrCtrl2 := by decide
theorem test_decode_rdStatus : decode (.txn 0b010000000000000000000000#24) = .ok .rdStatus := by decide
theorem test_decode_rdResults : decode (.txn 0b101110000000000100000000#24) = .ok .rdResults := by decide
/-- Reserved `KIND`, reserved `RSV`, a wrong width, a misaligned offset (R106, R65). -/
theorem test_decode_rejects :
    decode (.txn 0xC00000#24) = .error .unlistedTransaction ∧ decode (.txn 0x010002#24) = .error .unlistedTransaction
    ∧ decode (.access 16 0x100#9 0) = .error (.access .width)
    ∧ decode (.access 32 0x102#9 0) = .error (.access .misaligned) := by decide
/-- A word of each format, numbered as the table numbers it. -/
theorem test_tableWord :
    decodeTableWord 32 0x7701 = some (.init 7#4 7#4) ∧ decodeTableWord 16 0x104 = some (.hwrStatus 0#32)
    ∧ decodeTableWord 24 0xB80100 = some .rdResults ∧ decodeTableWord 24 0xC00000 = none := by decide

/-! ### Commands (vectors D1 to D15) -/

theorem test_nop_D2 : after (sendCmd 0x00FF00F0#32 fresh) State.statusWord = some 0x00000000#32 := by decide
theorem test_nop_D13 : after (sendCmd 0#32 (inRead .rWrTrig .config 0x000083#24)) State.statusWord = some 0x00690005#32 := by decide
theorem test_init_D3 : after (sendCmd 0x00007701#32 fresh) (fun t => (t.statusWord, t.configWord, t.req))
    = some (0x00180001#32, 0x00000077#32, 0x000002#24) := by decide
theorem test_init_D9 : after (sendCmd 0x0000B301#32 ready) State.statusWord = some 0x00190001#32 := by decide
theorem test_read_D8 : after (sendCmd 2#32 ready) (fun t => (t.statusWord, t.req)) = some (0x00690005#32, 0x000083#24) := by decide
theorem test_read_D5 : after (sendCmd 0xFFFF0002#32 fresh) State.statusWord = some 0x00000202#32 := by decide
theorem test_rsv3_D12 : after (sendCmd 3#32 (inRead .rWrTrig .config 0x000083#24)) State.statusWord
    = some 0x00690045#32 := by decide
/-- D14: ILLEGAL_CMD replaces NOT_INIT. -/
theorem test_rsv4to7_D14 : after (sendCmd 5#32 { fresh with done := true, err := .notInit }) State.statusWord
    = some 0x00000102#32 := by decide
theorem test_rsv8to15_D7 : after (sendCmd 0xF#32 fresh) State.statusWord = some 0x00000102#32 := by decide
/-- D15: the failed phase is cleared, `DS` is kept. -/
theorem test_read_D15 : after (sendCmd 2#32 { fresh with done := true, err := .busFail, failPhase := .iRdId, ds := .config })
    State.statusWord = some 0x00010202#32 := by decide

/-! ### Host accesses (vectors W1 to W7, H1 to H7) -/

theorem test_status_W3 : after (sendStatus 0x40#32 { ready with ovr := true }) State.statusWord = some 0x00010006#32 := by decide
theorem test_status_W4 : after (sendStatus 0xFFFFFFBD#32 { ready with ovr := true }) State.statusWord
    = some 0x00010046#32 := by decide
theorem test_other_H5 : after (run (.host 32 0x108#9 0xFFFFFFFF#32) ready) State.configWord = some 0x00002177#32 := by decide
/-- H2: `RAW0` after P2. -/
theorem test_read_H2 : after (run (.host 32 0x010#9 0) { ready with rawTemp := 12800#16, rawA := 1000#16 }) State.hostRdata
    = some 0x03E83200#32 := by decide
theorem test_read_H4 : after (run (.host 32 0x0FC#9 0) ready) State.hostRdata = some 0#32 := by decide
/-- R65. -/
theorem test_access_refused : run (.host 32 0x003#9 0) fresh = .refused .misalignedAccess
    ∧ run (.host 8 0x000#9 0) fresh = .refused .accessWidth := ⟨rfl, rfl⟩

/-! ### The arbiter (vectors A1 to A18) -/

theorem test_arbiter_config : [0x000002, 0x000083, 0x0000C0, 0x400200, 0x000221, 0x000677, 0x400600, 0x000840, 0x000900, 0x400000,
    0xB80100, 0x880100, 0xB80200, 0x400100, 0xC00000, 0x010002, 0x080002, 0x400201].map (txnValid .config)
    = [true, true, true, true, false, true, true, true, true, true,
       false, false, false, false, false, false, false, false] := by decide
theorem test_arbiter_meas : [0x000002, 0x000083, 0x0000C0, 0x400200, 0x000221, 0x000677, 0x400600, 0x000840, 0x000900, 0x400000,
    0xB80100, 0x880100, 0xB80200, 0x400100, 0xC00000, 0x010002, 0x080002, 0x400201].map (txnValid .measConv)
    = [true, true, true, false, false, false, false, false, false, true,
       true, true, false, false, false, false, false, false] := by decide

/-! ### The transactions: example of each rule R161 to R167, and a refusal -/

/-- What `REQ` and `STATUS.PEND` are after a transaction. -/
def issued (r : Result) : Option (Descriptor × Bool × ErrCode) := after r (fun t => (t.req, t.reqPending, t.err))

theorem test_wrOsrCfg_R161 : issued (exec .wrOsrCfg { ready with ds := .measReady }) = some (0x000002#24, true, .none) := by decide
theorem test_wrOsrTrig_R162 : issued (exec .wrOsrTrig ready) = some (0x000083#24, true, .none) := by decide
theorem test_rdId_R163 : issued (exec .rdId ready) = some (0x400200#24, true, .none) := by decide
theorem test_wrCtrl1_R164 : issued (exec (.wrCtrl1 7#4 7#4) ready) = some (0x000677#24, true, .none) := by decide
theorem test_wrCtrl2_R165 : issued (exec .wrCtrl2 ready) = some (0x000840#24, true, .none) := by decide
theorem test_rdStatus_R166 : issued (exec .rdStatus { ready with ds := .measConv }) = some (0x400000#24, true, .none) := by decide
theorem test_rdResults_R167 : issued (exec .rdResults { ready with ds := .measReady }) = some (0xB80100#24, true, .none) := by decide
/-- R291: `INIT_OK` is cleared and the phase is recorded. -/
theorem test_rdId_refused : after (exec .rdId (inRead .rWrTrig .measConv 0x000083#24)) State.statusWord
    = some 0x06030402#32 := by decide
/-- The host's word runs as the next step (WR_OSR_CFG offered to the block after reset). -/
theorem test_placed_txn : issued (step (fresh.withFetchWord 24 0x000002)) = some (0x000002#24, true, .none) := by decide
theorem test_placed_cmd : after (step (fresh.withFetchWord 32 0x7701)) State.statusWord = some 0x00180001#32 := by decide

/-! ### The sequencer (vectors T1 to T29, B1 to B9) -/

theorem test_T2 : after (respond true [] (inInit .iWrOsr .off 0x000002#24)) State.statusWord = some 0x00210001#32 := by decide
theorem test_T4 : after (run (.env .tick) (settling 9)) (fun t => (t.statusWord, t.req)) = some (0x00390001#32, 0x400200#24) := by
  decide
theorem test_T5 : after (respond true [0x21#8] (inInit .iRdId .config 0x400200#24)) (fun t => (t.statusWord, t.req, t.configWord))
    = some (0x00490001#32, 0x000677#24, 0x00002177#32) := by decide
theorem test_T6 : after (respond true [] (inInit .iWrCtrl1 .config 0x000677#24)) (fun t => (t.statusWord, t.req))
    = some (0x00590001#32, 0x000840#24) := by decide
theorem test_T7 : after (respond true [] (inInit .iWrCtrl2 .config 0x000840#24)) (fun t => (t.statusWord, t.factorsWord))
    = some (0x00010006#32, 0x00800080#32) := by decide
theorem test_T10 : after (respond true [] (inRead .rWrTrig .config 0x000083#24)) State.statusWord = some 0x00730005#32 := by decide
theorem test_T11 : after (run (.env .tick) (waiting .rWait 146 0)) (fun t => (t.statusWord, t.waitCnt))
    = some (0x00730005#32, 147#16) := by decide
theorem test_T12 : after (run (.env .tick) (waiting .rWait 147 9)) (fun t => (t.statusWord, t.pollCnt))
    = some (0x008B0005#32, 0#16) := by decide
theorem test_T14 : after (run (.env .tick) (waiting .rPollWait 4 4)) (fun t => (t.statusWord, t.pollCnt))
    = some (0x008B0005#32, 5#16) := by decide
theorem test_T16 : after (respond true blockX1.bytes (inRead .rBlkRd .measReady 0xB80100#24)) (fun t => (t.statusWord, t.req))
    = some (0x00BC0005#32, 0x000002#24) := by decide
/-- T17, with the results of program P2. -/
theorem test_T17 : after (respond true [] committing) (fun t => (t.statusWord, t.irrA, t.irrB, t.irrC, t.temp))
    = some (0x0001000E#32, 0x00003365#32, 0x000007D0#32, 0#32, 0x00000A00#32) := by decide
/-- R301: with `SETTLE_MS` 11 the tenth tick only counts, and the eleventh issues the identity read. -/
theorem test_settle_of_eleven :
    after (run (.env .tick) (slower (settling 9))) (fun t => (t.phase, t.reqPending)) = some (.iSettle, false)
    ∧ after (run (.env .tick) (slower (settling 10))) (fun t => (t.phase, t.req)) = some (.iRdId, 0x400200#24) := by decide
/-- R301: with `PROC_MARGIN_MS` 21 the wait of 128 ms ends at the tick numbered 149. -/
theorem test_margin_of_twentyone :
    after (run (.env .tick) (slower (waiting .rWait 147 0))) State.phase = some .rWait
    ∧ after (run (.env .tick) (slower (waiting .rWait 148 0))) State.phase = some .rPollRd := by decide
theorem test_T20 : after (run (.env .tick) (polling 0xFFFF)) State.pollCnt = some 0xFFFF#16 := by decide
theorem test_T21 : after (respond true [0x00#8] (polling 499)) State.phase = some .rPollWait := by decide
theorem test_T22 : after (respond true [0x00#8] (polling 500)) State.statusWord = some 0x00AB0015#32 := by decide
theorem test_T23 : after (respond true [0x08#8] (polling 600)) State.statusWord = some 0x00AC0005#32 := by decide
theorem test_T24 : after (respond true [0xF7#8] (polling 0)) State.phase = some .rPollWait := by decide
theorem test_T25 : after (respond true [0x1F#8] (inInit .iRdId .config 0x400200#24)) (fun t => (t.devId, t.idWarn))
    = some (0x1F#8, true) := by decide
theorem test_B1 : after (respond false [] (inInit .iWrOsr .config 0x000002#24)) State.statusWord = some 0x01000302#32 := by decide
theorem test_B2 : after (respond false [] (inInit .iRdId .config 0x400200#24)) State.statusWord = some 0x03010302#32 := by decide
theorem test_B6 : after (respond false [] (polling 0)) State.statusWord = some 0x08030306#32 := by decide
theorem test_B9 : after (respond false [] committing) State.statusWord = some 0x0B000302#32 := by decide
/-- P9: a reset abandons the request. -/
theorem test_reset_P9 : after (run (.env .reset) (inRead .rWrTrig .config 0x000083#24)) (fun t => (t.statusWord, t.abandoned))
    = some (0#32, [0x000083#24]) := by decide

/-! ### The converter (vectors V1 to V27, M1 to M9, X2) -/

theorem test_irradiance : irradiance 1000 19923 128 128 = (0x00003365, false) ∧ irradiance 1 19923 1 1 = (0x00034A1A, false)
    ∧ irradiance 19922 19923 1 1 = (0xFFFCB5E5, false) ∧ irradiance 19923 19923 1 1 = (0xFFFFFFFF, true)
    ∧ irradiance 65535 19923 32768 32768 = (13, false) ∧ irradiance 65535 0xFFFFFFFF 32768 32768 = (0, false)
    ∧ irradiance 0 0 1 1 = (0, false) ∧ irradiance 65535 0 1 1 = (0, false) := by decide
theorem test_temperature : [0, 1, 256, 5120, 10240, 10410, 65535].map temperature
    = [0xFFFFD800, 0xFFFFD801, 0xFFFFD900, 0xFFFFEC00, 0, 0xAA, 0xD7FF] := by decide
theorem test_block_X2 : decodeBlock ⟨0xAA, 0x28, 0x01, 0x00, 0x00, 0x00, 0xFF, 0xFF⟩ = ⟨10410, 1, 0, 65535⟩ := by decide

/-! ### The device (44_device_contract) -/

theorem test_device_osr : [0x02, 0x83, 0x03, 0x42].map (fun v => (deviceWriteOsr v (choice true).havoc configDevice).mode)
    = [.config, .measConv, .measIdle, .off] := by decide
theorem test_device_control : (deviceWrite 0x06#8 0xB3#8 (choice true).havoc configDevice).creg1 = 0xB3#8
    ∧ (deviceWrite 0x09#8 0x01#8 (choice true).havoc configDevice).creg3 = 0x01#8 := by decide
theorem test_device_status : deviceReadByte 0#8 0xF7#8 { configDevice with mode := .measReady } = 0xFF#8
    ∧ deviceReadByte 0#8 0xFF#8 { configDevice with mode := .measConv } = 0xF7#8 := by decide
theorem test_device_identity : deviceReadByte 2#8 0#8 configDevice = 0x21#8 := by decide
theorem test_device_results : deviceReadBlock 1#8 8 Block.zero committing.dev = blockX1.bytes := by decide
/-- R254: after 128 ticks, not after 127. -/
theorem test_device_ready :
    after (deviceReady sampleX1 { ready with dev := { configDevice with mode := .measConv, since := 128 } })
      (fun t => (t.dev.mode, t.dev.sample)) = some (.measReady, sampleX1)
    ∧ deviceReady sampleX1 { ready with dev := { configDevice with mode := .measConv, since := 127 } }
      = .fault .readyNotAdmitted := ⟨by decide, rfl⟩
theorem test_late : lateAnswer 0 (choice true) fresh = .fault .lateNotAdmitted := rfl

/-! ### Witnesses: states that meet the hypotheses of the statements, at the boundaries of each clause -/

/-- BusyCommandIsDropped. -/
theorem witness_busy : (inRead .rWrTrig .config 0x000083#24).busy = true ∧ (1#32).extractLsb' 0 4 ≠ 0#4
    ∧ (15#32).extractLsb' 0 4 ≠ 0#4 := by decide
/-- NopChangesNothing, InitIsAccepted, RejectedCommandRecordsItsError: a word for each clause, at the ends of its `OP` range. -/
theorem witness_idle : fresh.busy = false ∧ fresh.initOk = false ∧ (0x00FF00F0#32).extractLsb' 0 4 = 0#4
    ∧ ((0xB301#32).extractLsb' 0 4 = 1#4 ∧ (0xB301#32).extractLsb' 8 4 = 3#4 ∧ (0xB301#32).extractLsb' 12 4 = 11#4)
    ∧ (0xFFFF0002#32).extractLsb' 0 4 = 2#4 ∧ 3 ≤ ((3#32).extractLsb' 0 4).toNat ∧ 3 ≤ ((15#32).extractLsb' 0 4).toNat := by decide
/-- ReadIsAccepted. -/
theorem witness_ready : ready.busy = false ∧ ready.initOk = true ∧ (2#32).extractLsb' 0 4 = 2#4 := by decide
/-- IgnoredCommandBitsHaveNoEffect: a READ with other codes, and an INIT with the same. -/
theorem witness_ignoredBits :
    ((0x0000FF02#32).extractLsb' 0 4 = (0xFFFF00F2#32).extractLsb' 0 4 ∧ (0x0000FF02#32).extractLsb' 0 4 ≠ 1#4)
    ∧ ((0x00007701#32).extractLsb' 0 4 = (0xFFFF77F1#32).extractLsb' 0 4
      ∧ (0x00007701#32).extractLsb' 8 8 = (0xFFFF77F1#32).extractLsb' 8 8) := by decide
/-- OtherWritesChangeNothing and the last clause of HostReadReturnsTheRegister: the first and last offsets. -/
theorem witness_offsets : ((0x08#8).toNat % 4 = 0 ∧ 0x08 ≤ (0x08#8).toNat) ∧ ((0x28#8).toNat % 4 = 0 ∧ 0x28 ≤ (0x28#8).toNat)
    ∧ ((0xFC#8).toNat % 4 = 0 ∧ 0x28 ≤ (0xFC#8).toNat) := by decide
/-- HostReadReturnsTheRegister: the word in its premise, in the state of vector T17. -/
theorem witness_statusWord : (0x00010006#32 : Word) = 0#4 ++ ready.failPhase.code ++ ready.phase.code
    ++ BitVec.ofBool ready.reqPending ++ ready.ds.code ++ 0#2
    ++ BitVec.ofBool ready.satC ++ BitVec.ofBool ready.satB ++ BitVec.ofBool ready.satA ++ ready.err.code ++ 0#1
    ++ BitVec.ofBool ready.ovr ++ BitVec.ofBool ready.idWarn ++ BitVec.ofBool ready.degraded ++ BitVec.ofBool ready.valid
    ++ BitVec.ofBool ready.initOk ++ BitVec.ofBool ready.done ++ BitVec.ofBool ready.busy := by decide
/-- UndefinedAccessIsRefused: each clause. -/
theorem witness_undefinedAccess : (0x01#8).toNat % 4 ≠ 0 ∧ (0xFF#8).toNat % 4 ≠ 0 ∧ fresh.offer = none
    ∧ (16 : Nat) ≠ 32 ∧ (0x101#9).toNat % 4 ≠ 0 ∧ (0x1FF#9).toNat % 4 ≠ 0 := by decide
/-- StepRunsTheHostAccess: a write to `CMD` that decodes. -/
theorem witness_hostAccess : fresh.offer = none ∧ ({ fresh with schedule := [.host 32 0x100#9 2#32] } : State).schedule
    = .host 32 0x100#9 2#32 :: [] ∧ decode (.access 32 0x100#9 2#32) = .ok (.hwrCmd 2#32) := by decide
/-- StepRunsTheOfferedTransaction: a listed and an unlisted descriptor. -/
theorem witness_offer : ({ fresh with offer := some 0x400200#24 } : State).offer = some 0x400200#24
    ∧ decode (.txn 0x400200#24) = .ok .rdId ∧ decode (.txn 0x400600#24) = .error .unlistedTransaction := by decide
/-- StepHandlesOneEvent: each clause. -/
theorem witness_events : committing.offer = none ∧ committing.reqPending = true ∧ fresh.schedule = []
    ∧ ({ committing with schedule := [.env (.transport (choice true))] } : State).schedule = .env (.transport (choice true)) :: []
    ∧ ({ committing with schedule := [.env .tick] } : State).schedule = .env .tick :: []
    ∧ ({ fresh with abandoned := [0x000083#24], schedule := [.env (.late 0 (choice true))] } : State).schedule
      = .env (.late 0 (choice true)) :: []
    ∧ ({ fresh with abandoned := [0x000083#24], schedule := [.env (.late 0 (choice true))] } : State).abandoned[0]?
      = some 0x000083#24
    ∧ ({ committing with schedule := [.env .reset] } : State).schedule = .env .reset :: [] := by decide
/-- PlacedWordRunsNext: a word of each format. -/
theorem witness_placed : decodeTableWord 32 0xF = some (.rsv8to15 7#3) ∧ decodeTableWord 16 0xFC = some (.hrd 0xFC#8)
    ∧ decodeTableWord 24 0x83 = some .wrOsrTrig := by decide
/-- DecodeInvertsEncode: the boundary offsets. -/
theorem witness_wf : (Instr.hwrOther 0x08#8 0).wf = true ∧ (Instr.hwrOther 0xFC#8 0).wf = true ∧ (Instr.hrd 0x00#8).wf = true
    ∧ (Instr.hrd 0xFC#8).wf = true := by decide
/-- EveryCommandWordDecodes: each clause at its ends. -/
theorem witness_opClauses : (0xFFFFFFF0#32).toNat % 16 = 0 ∧ (0xFFFFFFF1#32).toNat % 16 = 1 ∧ (2#32).toNat % 16 = 2
    ∧ (3#32).toNat % 16 = 3 ∧ (4 ≤ (4#32).toNat % 16 ∧ (7#32).toNat % 16 ≤ 7) ∧ 8 ≤ (8#32).toNat % 16
    ∧ 8 ≤ (15#32).toNat % 16 := by decide
/-- AdmittedTransactionIsPlaced and RefusedTransactionAborts: the declared states of their clauses. -/
theorem witness_declared : ready.ds = .config ∧ ready.ds ≠ .off ∧ fresh.ds = .off ∧ fresh.ds ≠ .config
    ∧ ({ ready with ds := .measIdle } : State).ds ∈ [DState.measIdle, .measConv, .measReady]
    ∧ ({ ready with ds := .measConv } : State).ds ≠ .config := by decide
/-- InstructionsDoNotTouchTheDevice: an instruction that runs and one that is refused. -/
theorem witness_untouched : (∃ t, exec .rdId ready = .next t) ∧ ∃ r, exec (.hrd 0x01#8) ready = .refused r := ⟨⟨_, rfl⟩, ⟨_, rfl⟩⟩
/-- UnaskedResponseIsDiscarded. -/
theorem witness_unasked : ready.reqPending = false ∧ ready.offer = none := by decide
/-- FirstOsrResponseStartsTheWait and InitResponsesWriteTheControlRegisters: a state for each clause. -/
theorem witness_initResponses :
    ((inInit .iWrOsr .off 0x000002#24).reqPending = true ∧ (inInit .iWrOsr .off 0x000002#24).phase = .iWrOsr)
    ∧ ((inRead .rWrTrig .config 0x000083#24).reqPending = true ∧ (inRead .rWrTrig .config 0x000083#24).phase = .rWrTrig)
    ∧ ((inInit .iRdId .config 0x400200#24).reqPending = true ∧ (inInit .iRdId .config 0x400200#24).ds = .config
      ∧ (inInit .iRdId .config 0x400200#24).phase = .iRdId)
    ∧ ((inInit .iWrCtrl1 .config 0x000677#24).reqPending = true ∧ (inInit .iWrCtrl1 .config 0x000677#24).ds = .config
      ∧ (inInit .iWrCtrl1 .config 0x000677#24).phase = .iWrCtrl1)
    ∧ ((inInit .iWrCtrl2 .config 0x000840#24).reqPending = true ∧ (inInit .iWrCtrl2 .config 0x000840#24).ds = .config
      ∧ (inInit .iWrCtrl2 .config 0x000840#24).phase = .iWrCtrl2) := by decide
/-- StatusResponseDecides, ResultResponseHoldsTheBytes, ReadEndCommitsTheSample, BusFailureAborts: a state for each clause, and
the count at its bound. -/
theorem witness_readResponses :
    ((polling 600).reqPending = true ∧ (polling 600).phase = .rPollRd ∧ (0x08#8).getLsbD 3 = true)
    ∧ ((polling 499).reqPending = true ∧ (polling 499).phase = .rPollRd ∧ (0xF7#8).getLsbD 3 = false
      ∧ (polling 499).pollCnt.toNat < 500)
    ∧ ((polling 500).reqPending = true ∧ (polling 500).phase = .rPollRd ∧ (0x00#8).getLsbD 3 = false
      ∧ 500 ≤ (polling 500).pollCnt.toNat ∧ (polling 500).ds = .measConv)
    ∧ ((inRead .rBlkRd .measReady 0xB80100#24).reqPending = true ∧ (inRead .rBlkRd .measReady 0xB80100#24).phase = .rBlkRd)
    ∧ (committing.reqPending = true ∧ committing.phase = .rWrCfg ∧ committing.phase.isTransaction = true) := by decide
/-- TickDoesWhatThePhaseSays: each clause, one tick before its end and at its end. -/
theorem witness_ticks :
    (fresh.waitCnt ≠ 0xFFFF#16 ∧ fresh.phase ∈ [Phase.idle, .iWrOsr, .iRdId, .iWrCtrl1, .iWrCtrl2, .rWrTrig, .rBlkRd, .rWrCfg])
    ∧ ((settling 8).waitCnt ≠ 0xFFFF#16 ∧ (settling 8).phase = .iSettle ∧ (settling 8).waitCnt + 1#16 ≠ (settling 8).settleMs)
    ∧ ((settling 9).waitCnt ≠ 0xFFFF#16 ∧ (settling 9).phase = .iSettle ∧ (settling 9).ds = .config
      ∧ (settling 9).waitCnt + 1#16 = (settling 9).settleMs)
    ∧ ((waiting .rWait 146 0).waitCnt ≠ 0xFFFF#16 ∧ (waiting .rWait 146 0).phase = .rWait
      ∧ ((waiting .rWait 146 0).waitCnt + 1#16).toNat
        ≠ (waiting .rWait 146 0).intTimeMs.toNat + (waiting .rWait 146 0).procMarginMs.toNat)
    ∧ ((waiting .rWait 147 0).waitCnt ≠ 0xFFFF#16 ∧ (waiting .rWait 147 0).phase = .rWait ∧ (waiting .rWait 147 0).ds = .measConv
      ∧ ((waiting .rWait 147 0).waitCnt + 1#16).toNat
        = (waiting .rWait 147 0).intTimeMs.toNat + (waiting .rWait 147 0).procMarginMs.toNat)
    ∧ ((polling 0xFFFF).waitCnt ≠ 0xFFFF#16 ∧ (polling 0xFFFF).phase = .rPollRd)
    ∧ ((waiting .rPollWait 3 3).waitCnt ≠ 0xFFFF#16 ∧ (waiting .rPollWait 3 3).phase = .rPollWait
      ∧ (waiting .rPollWait 3 3).waitCnt + 1#16 ≠ (waiting .rPollWait 3 3).pollIntervalMs)
    ∧ ((waiting .rPollWait 4 4).waitCnt ≠ 0xFFFF#16 ∧ (waiting .rPollWait 4 4).phase = .rPollWait
      ∧ (waiting .rPollWait 4 4).ds = .measConv ∧ (waiting .rPollWait 4 4).waitCnt + 1#16 = (waiting .rPollWait 4 4).pollIntervalMs) := by decide
/-- SettleLastsItsTicks, ConversionWaitLastsItsTicks, PollLoopEndsAtTheReadNumbered101: each clause with the default parameters, and
the timed hypotheses with those of 60_exceptions R301 at the longest time code. -/
theorem witness_waits :
    ((settling 0).phase = .iSettle ∧ (settling 0).ds = .config ∧ (settling 0).waitCnt = 0#16 ∧ 0 < (settling 0).settleMs.toNat
      ∧ 0 < (slower (settling 0)).settleMs.toNat)
    ∧ ((waiting .rWait 0 0).phase = .rWait ∧ (waiting .rWait 0 0).ds = .measConv ∧ (waiting .rWait 0 0).waitCnt = 0#16
      ∧ (waiting .rWait 0 0).intTimeMs = 1#16 <<< (waiting .rWait 0 0).timeCode.toNat
      ∧ 2 ^ (waiting .rWait 0 0).timeCode.toNat + (waiting .rWait 0 0).procMarginMs.toNat ≤ 0xFFFF
      ∧ 2 ^ (15#4 : Code).toNat + (slower (waiting .rWait 0 0)).procMarginMs.toNat ≤ 0xFFFF)
    ∧ ((polling 0).phase = .rPollRd ∧ (polling 0).reqPending = true ∧ (polling 0).ds = .measConv ∧ (polling 0).pollCnt = 0#16
      ∧ (0x00#8).getLsbD 3 = false ∧ (polling 0).pollIntervalMs = 5#16
      ∧ (polling 0).pollIntervalMs.toNat * (100 - 1) < 500 ∧ 500 ≤ (polling 0).pollIntervalMs.toNat * 100) := by decide
/-- IrradianceIsTheQuotient, IrradianceSaturatesExactlyFromD, IrradianceIsTheExactFloor: vectors V3 and V4. -/
theorem witness_irradiance : (19922#16 : Count) ≠ 0#16 ∧ (19923#32 : Word) ≠ 0#32 ∧ (1#16 : Count) ≠ 0#16
    ∧ (irradiance 19922 19923 1 1).2 = false ∧ (irradiance 19923 19923 1 1).2 = true := by decide
/-- IrradianceDoesNotIncreaseWithTheCodes, IrradianceDependsOnTheSumOfTheCodes. -/
theorem witness_codes : (7#4 : Code).toNat ≤ (15#4 : Code).toNat
    ∧ (8#4 : Code).toNat + (7#4 : Code).toNat = (7#4 : Code).toNat + (8#4 : Code).toNat := by decide
/-- ResultsDependOnlyOnTheReadsOwnData: two states that differ in an old result. -/
theorem witness_ownData : ∃ s s' t t' : State, s.phase = .rWrCfg ∧ s'.phase = .rWrCfg ∧ s.reqPending = true ∧ s'.reqPending = true
    ∧ s.blk = s'.blk ∧ s.gainFactor = s'.gainFactor ∧ s.intTimeMs = s'.intTimeMs
    ∧ s.sensA = s'.sensA ∧ s.sensB = s'.sensB ∧ s.sensC = s'.sensC ∧ s.irrA ≠ s'.irrA
    ∧ respond true [] s = .next t ∧ respond true [] s' = .next t' :=
  ⟨committing, { committing with irrA := 5#32 }, _, _, by decide, by decide, by decide, by decide, by decide, by decide, by decide,
    by decide, by decide, by decide, by decide, rfl, rfl⟩
/-- ResetClearsTheBlockOnly. -/
theorem witness_reset : committing.offer = none
    ∧ ({ committing with schedule := [.env .reset] } : State).schedule = .env .reset :: [] := by decide

/-- The state at the end of READ, with the transport's ok next, satisfies the invariant. -/
theorem committing_inv (l : List Event) : Inv { committing with schedule := l } := by
  constructor <;> simp [committing, inRead, ready, fresh, State.reset, Phase.isTransaction, Phase.request, Phase.isInit,
    Phase.isRead, declaredFits, resultsZero, waitBounded, timingFits,
    waitCeiling, Config.settleMsDefault, Config.procMarginMsDefault, Config.pollIntervalMsDefault, gainFactorOf,
    intTimeOf]
  all_goals decide

/-- The last write of INIT, with the transport's ok next, satisfies the invariant. -/
theorem initEnding_inv (l : List Event) : Inv { inInit .iWrCtrl2 .config 0x000840#24 with schedule := l } := by
  constructor <;> simp [inInit, fresh, State.reset, Phase.isTransaction, Phase.request, Phase.isInit,
    Phase.isRead, declaredFits, resultsZero, waitBounded, timingFits,
    waitCeiling, Config.settleMsDefault, Config.procMarginMsDefault, Config.pollIntervalMsDefault]
  all_goals decide

/-- The idle block of program P1, its completion acknowledged, satisfies the invariant. -/
theorem ready_inv (l : List Event) : Inv { ready with done := false, schedule := l } := by
  constructor <;> simp [ready, fresh, State.reset, Phase.isTransaction, Phase.isInit,
    Phase.isRead, declaredFits, resultsZero, waitBounded, timingFits,
    waitCeiling, Config.settleMsDefault, Config.procMarginMsDefault, Config.pollIntervalMsDefault, gainFactorOf,
    intTimeOf]

/-- The parameters of 60_exceptions R301 fit the counters, and a block built with them satisfies the invariant. -/
theorem slower_inv (l : List Event) : Inv (slower { ready with done := false, schedule := l }) := by
  constructor <;> simp [slower, ready, fresh, State.reset, Phase.isTransaction, Phase.isInit,
    Phase.isRead, declaredFits, resultsZero, waitBounded, timingFits, waitCeiling, Config.pollIntervalMsDefault, gainFactorOf,
    intTimeOf]

/-- EveryStepKeepsTheInvariant, ParametersNeverChange: a step from a state of the invariant. -/
theorem witness_invariant : ∃ s t : State, Inv s ∧ step s = .next t :=
  ⟨{ committing with schedule := [.env (.transport (choice true))] }, _, committing_inv _, rfl⟩
/-- AdmittedEventsNeverStopTheMachine: an aligned access, and a conversion that may end. -/
theorem witness_admitted :
    (∃ s : State, Inv s ∧ s.schedule ≠ [] ∧ ∀ e rest, s.schedule = e :: rest → e.admitted s) ∧
    (Event.host 32 0x0FC#9 0).admitted fresh
    ∧ (Event.env (.devReady sampleX1)).admitted { ready with dev := { configDevice with mode := .measConv, since := 128 } }
    ∧ (Event.env (.late 0 (choice true))).admitted { ready with abandoned := [0x000083#24] } :=
  ⟨⟨{ committing with schedule := [.host 32 0x0FC#9 0] }, committing_inv _, by simp, by
      intro e rest h; cases h; exact ⟨rfl, rfl⟩⟩, ⟨rfl, rfl⟩, ⟨rfl, by decide⟩, by simp [Event.admitted]⟩
/-- TransactionPhaseIsLeftOnlyByItsResponse: a command dropped in a transaction phase. -/
theorem witness_phaseKept : ∃ s t : State, Inv s ∧ s.phase.isTransaction = true ∧ step s = .next t
    ∧ (∀ c rest, s.schedule ≠ .env (.transport c) :: rest) ∧ (∀ rest, s.schedule ≠ .env .reset :: rest) :=
  ⟨{ committing with schedule := [.host 32 0x100#9 2#32] }, _, committing_inv _, rfl, rfl, by simp, by simp⟩
/-- InterruptRisesOnlyWhenACommandEnds: a finish, and a rejection. -/
theorem witness_interrupt : (∃ s t : State, Inv s ∧ step s = .next t ∧ s.irq = false ∧ t.irq = true ∧ s.busy = true)
    ∧ ∃ s t : State, Inv s ∧ step s = .next t ∧ s.irq = false ∧ t.irq = true ∧ s.busy = false :=
  ⟨⟨{ committing with schedule := [.env (.transport (choice true))] }, _, committing_inv _, rfl, rfl, rfl, rfl⟩,
   ⟨{ ready with done := false, schedule := [.host 32 0x100#9 3#32] }, _, ready_inv _, rfl, rfl, rfl, rfl⟩⟩
/-- DeviceTakesTheWrittenByte, DeviceAnswersReads, FailedTransactionReturnsNoByte: the device of each clause. -/
theorem witness_device : (choice true).ok = true ∧ (choice false).ok = false ∧ (choice false).failEffect = .notActed
    ∧ ({ choice false with failEffect := .acted } : Choice).ok = false
    ∧ ({ choice false with failEffect := .anyState } : Choice).failEffect = .anyState
    ∧ (0x40#8).getLsbD 6 = true ∧ configDevice.mode = .config ∧ committing.dev.mode = .measReady
    ∧ ({ configDevice with mode := .measConv } : Device).mode = .measConv
    ∧ transportCall 0x74#7 0x000002#24 ≠ none := by decide
/-- ConversionEndsNoSoonerThanItsTime. -/
theorem witness_conversion : ready.offer = none
    ∧ ({ ready with schedule := [.env (.devReady sampleX1)] } : State).schedule = .env (.devReady sampleX1) :: []
    ∧ 2 ^ (configDevice.creg1.toNat % 16) ≤ 128 := by decide
/-- DeviceAgreementIsKept and ReadReturnsTheDevicesSample. -/
theorem witness_read : ∃ (s t : State) (c : Choice) (rest : List Event), Inv s ∧ s.abandoned = [] ∧ deviceAgrees s
    ∧ s.phase = .rWrCfg ∧ s.degraded = false ∧ s.schedule = .env (.transport c) :: rest ∧ c.ok = true ∧ step s = .next t :=
  ⟨{ committing with schedule := [.env (.transport (choice true))] }, _, choice true, [], committing_inv _, rfl,
    fun _ => ⟨rfl, by decide⟩, rfl, rfl, rfl, rfl, rfl⟩
/-- SuccessfulInitConfiguresTheDevice. -/
theorem witness_init : ∃ (s t : State) (c : Choice) (rest : List Event), Inv s ∧ s.abandoned = [] ∧ deviceAgrees s
    ∧ s.phase = .iWrCtrl2 ∧ s.schedule = .env (.transport c) :: rest ∧ c.ok = true ∧ step s = .next t :=
  ⟨{ inInit .iWrCtrl2 .config 0x000840#24 with schedule := [.env (.transport (choice true))] }, _, choice true, [],
    initEnding_inv _, rfl, ⟨rfl, rfl⟩, rfl, rfl, rfl, rfl⟩

end Sys2Proof.Tests
end

section
/-! PROOFS. What no step changes: the parameters of the block and the identity byte of the device. -/

namespace Sys2Proof.Machine

/-- What a block and its device are built with: the parameters (00_scope R8) and the identity byte (44_device_contract R250). -/
structure Constants where
  devAddr : BitVec 7
  sensA : Word
  sensB : Word
  sensC : Word
  settleMs : Count
  procMarginMs : Count
  pollIntervalMs : Count
  idbyte : Byte

/-- The constants as they stand in a state. -/
def State.constants (s : State) : Constants where
  devAddr := s.devAddr
  sensA := s.sensA
  sensB := s.sensB
  sensC := s.sensC
  settleMs := s.settleMs
  procMarginMs := s.procMarginMs
  pollIntervalMs := s.pollIntervalMs
  idbyte := s.dev.idbyte

theorem constants_eq_iff {s t : State} :
    t.constants = s.constants ↔
      t.devAddr = s.devAddr ∧ t.sensA = s.sensA ∧ t.sensB = s.sensB ∧ t.sensC = s.sensC
      ∧ t.settleMs = s.settleMs ∧ t.procMarginMs = s.procMarginMs ∧ t.pollIntervalMs = s.pollIntervalMs
      ∧ t.dev.idbyte = s.dev.idbyte := by
  simp only [State.constants, Constants.mk.injEq]

/-- A device with the same identity byte takes the place of the old one. -/
theorem constants_withDev {s : State} {d : Device} (hd : d.idbyte = s.dev.idbyte) :
    { s with dev := d }.constants = s.constants := by
  simp [State.constants, hd]

/-! ### Commands and host accesses -/

@[simp] theorem issue_constants (d : Descriptor) (s : State) : (issue d s).constants = s.constants := by
  simp [State.constants]

@[simp] theorem acceptInit_constants (g t : Code) (s : State) : (acceptInit g t s).constants = s.constants :=
  issue_constants _ _

@[simp] theorem acceptRead_constants (s : State) : (acceptRead s).constants = s.constants :=
  issue_constants _ _

@[simp] theorem commandInit_constants (g t : Code) (s : State) : (commandInit g t s).constants = s.constants := by
  unfold commandInit; split
  · rfl
  · exact acceptInit_constants g t s

@[simp] theorem commandRead_constants (s : State) : (commandRead s).constants = s.constants := by
  unfold commandRead; split
  · rfl
  split
  · exact acceptRead_constants s
  · rfl

@[simp] theorem commandReserved_constants (s : State) : (commandReserved s).constants = s.constants := by
  unfold commandReserved; split <;> rfl

@[simp] theorem commandWrite_constants (w : Word) (s : State) : (commandWrite w s).constants = s.constants := by
  obtain h | ⟨-, h⟩ | ⟨-, h⟩ | ⟨-, -, h⟩ | ⟨-, code, -, h⟩ := commandWrite_cases w s <;> rw [h]
  · rfl
  · exact acceptInit_constants _ _ s
  · exact acceptRead_constants s
  · rfl

theorem hostWrite_constants {off : Byte} {w : Word} {s t : State} (h : hostWrite off w s = .next t) :
    t.constants = s.constants := by
  obtain ⟨-, hw⟩ | hw | hw | hw := hostWrite_cases off w s <;> cases hw.symm.trans h
  · exact commandWrite_constants w s
  · rfl
  · rfl

theorem hostRead_constants {off : Byte} {s t : State} (h : hostRead off s = .next t) : t.constants = s.constants := by
  unfold hostRead at h
  split at h <;> cases h
  rfl

theorem exec_constants {i : Instr} {s t : State} (h : exec i s = .next t) : t.constants = s.constants := by
  cases i with
  | nop => cases h; rfl
  | init g c => cases h; exact commandInit_constants g c s
  | read => cases h; exact commandRead_constants s
  | rsv3 | rsv4to7 _ | rsv8to15 _ => cases h; exact commandReserved_constants s
  | hwrCmd w => exact hostWrite_constants (off := 0x00#8) (w := w) h
  | hwrStatus w => exact hostWrite_constants (off := 0x04#8) (w := w) h
  | hwrOther off w => exact hostWrite_constants (off := off) (w := w) h
  | hrd _ => exact hostRead_constants h
  | wrOsrCfg | wrOsrTrig | rdId | wrCtrl1 _ _ | wrCtrl2 | rdStatus | rdResults => cases h; exact issue_constants _ s

/-! ### Responses, ticks and the device -/

@[simp] theorem afterStatus_constants (d : Byte) (s : State) : (afterStatus d s).constants = s.constants := by
  unfold afterStatus; split
  · exact issue_constants _ _
  split
  · rfl
  · exact issue_constants _ _

theorem responseOk_constants {data : List Byte} {s t : State} (h : responseOk data s = .next t) :
    t.constants = s.constants := by
  obtain ⟨-, -, rfl⟩ | ⟨-, d, -, rfl⟩ | ⟨-, -, rfl⟩ | ⟨-, -, rfl⟩ | ⟨-, -, rfl⟩ | ⟨-, d, -, rfl⟩ | ⟨-, b, -, rfl⟩
    | ⟨-, -, rfl⟩ := responseOk_cases h
  · rfl
  · exact issue_constants _ _
  · exact issue_constants _ _
  · rfl
  · rfl
  · exact afterStatus_constants d s
  · exact issue_constants _ _
  · rfl

@[simp] theorem busFailure_constants (s : State) : (busFailure s).constants = s.constants := by
  unfold busFailure; split <;> rfl

theorem respond_constants {ok : Bool} {data : List Byte} {s t : State} (h : respond ok data s = .next t) :
    t.constants = s.constants := by
  unfold respond at h
  split at h
  · split at h
    · exact (responseOk_constants h).trans rfl
    · unfold responseFail at h
      split at h <;> cases h
      exact (busFailure_constants _).trans rfl
  · cases h; rfl

@[simp] theorem blockTick_constants (s : State) : (blockTick s).constants = s.constants := by
  unfold blockTick; split
  · unfold tickSettle; dsimp only; split <;> simp [State.constants]
  · unfold tickWait; dsimp only; split <;> simp [State.constants]
  · rfl
  · unfold tickPollWait; dsimp only; split <;> simp [State.constants]
  all_goals rfl

@[simp] theorem deviceTick_idbyte (d : Device) : (deviceTick d).idbyte = d.idbyte := by
  unfold deviceTick; split <;> rfl

theorem transportAnswer_constants {c : Choice} {s t : State} (h : transportAnswer c s = .next t) :
    t.constants = s.constants := by
  unfold transportAnswer at h
  split at h
  · exact (respond_constants h).trans (constants_withDev (carryOut_idbyte ..))
  · cases h; rfl

theorem lateAnswer_constants {k : Nat} {c : Choice} {s t : State} (h : lateAnswer k c s = .next t) :
    t.constants = s.constants := by
  unfold lateAnswer at h
  split at h <;> cases h
  exact constants_withDev (carryOut_idbyte ..)

theorem deviceReady_constants {m : Sample} {s t : State} (h : deviceReady m s = .next t) :
    t.constants = s.constants := by
  unfold deviceReady at h
  split at h <;> cases h
  rfl

@[simp] theorem tickAll_constants (s : State) : (tickAll s).constants = s.constants := by
  obtain ⟨-, -, -, hdev⟩ := blockTick_params s
  have hid : (deviceTick s.dev).idbyte = (blockTick s).dev.idbyte := by rw [deviceTick_idbyte, hdev]
  exact (constants_withDev hid).trans (blockTick_constants s)

theorem environmentStep_constants {e : EnvEvent} {s t : State} (h : environmentStep e s = .next t) :
    t.constants = s.constants := by
  cases e with
  | transport c => exact transportAnswer_constants h
  | late k c => exact lateAnswer_constants h
  | devReady m => exact deviceReady_constants h
  | tick => cases h; exact tickAll_constants s
  | reset => cases h; rfl

/-! ### The step -/

@[simp] theorem fetch_constants (s : State) : (fetch s).2.constants = s.constants := by
  unfold fetch; split
  · rfl
  · split <;> rfl

theorem step_constants {s t : State} (h : step s = .next t) : t.constants = s.constants := by
  rw [← fetch_constants s]
  unfold step at h
  split at h <;> rename_i hf <;> rw [hf]
  · cases h; rfl
  · exact exec_constants h
  · cases h; exact issue_constants _ _
  · exact environmentStep_constants h
  · cases h

/-- Settles O53: every step keeps the constants. -/
theorem parametersNeverChange : Obligations.ParametersNeverChange := by
  unfold Obligations.ParametersNeverChange
  exact fun s t h => constants_eq_iff.mp (step_constants h)

/-- Settles O15: each event by the law of the step for the event that comes next. -/
theorem stepHandlesOneEvent : Obligations.StepHandlesOneEvent := by
  unfold Obligations.StepHandlesOneEvent
  intro s rest ho
  refine ⟨fun c hs hp => ?_, fun hs => ?_, fun k c t hs hk => ?_, fun hs => ?_, step_of_empty ho⟩
  · exact (step_of_env ho hs).trans (if_pos hp)
  · exact step_of_env ho hs
  · rw [step_of_env ho hs]
    simp only [environmentStep, lateAnswer, hk]
  · exact step_of_env ho hs

end Sys2Proof.Machine
end

section
/-! PROOFS. The words the block shows HOST: where each field of `STATUS` stands (10_state R24). -/

namespace Sys2Proof.Machine

/-- The flags of `STATUS`, each in its bit, and the reserved bit 7. -/
theorem statusWord_flags (s : State) :
    s.statusWord.getLsbD 0 = s.busy ∧ s.statusWord.getLsbD 1 = s.done ∧ s.statusWord.getLsbD 2 = s.initOk
    ∧ s.statusWord.getLsbD 3 = s.valid ∧ s.statusWord.getLsbD 4 = s.degraded ∧ s.statusWord.getLsbD 5 = s.idWarn
    ∧ s.statusWord.getLsbD 6 = s.ovr ∧ s.statusWord.getLsbD 7 = false
    ∧ s.statusWord.getLsbD 11 = s.satA ∧ s.statusWord.getLsbD 12 = s.satB ∧ s.statusWord.getLsbD 13 = s.satC
    ∧ s.statusWord.getLsbD 19 = s.reqPending := by
  simp only [State.statusWord, BitVec.getLsbD_append]
  simp

/-- The codes of `STATUS`, each in its bits, and the reserved bits between them. -/
theorem statusWord_codes (s : State) :
    s.statusWord.extractLsb' 8 3 = s.err.code ∧ s.statusWord.extractLsb' 14 2 = 0#2
    ∧ s.statusWord.extractLsb' 16 3 = s.ds.code ∧ s.statusWord.extractLsb' 20 4 = s.phase.code
    ∧ s.statusWord.extractLsb' 24 4 = s.failPhase.code ∧ s.statusWord.extractLsb' 28 4 = 0#4 := by
  simp (disch := omega) only [State.statusWord, BitVec.extractLsb'_append_eq_of_add_le,
    BitVec.extractLsb'_append_eq_of_le]
  simp

/-- Settles O11: the codes by evaluation, the fields by the layout of the word. -/
theorem statusFieldsStandInTheirBits : Obligations.StatusFieldsStandInTheirBits := by
  unfold Obligations.StatusFieldsStandInTheirBits
  refine ⟨rfl, rfl, rfl, fun s => ?_⟩
  obtain ⟨h0, h1, h2, h3, h4, h5, h6, h7, h11, h12, h13, h19⟩ := statusWord_flags s
  obtain ⟨herr, h14, hds, hphase, hfail, h28⟩ := statusWord_codes s
  exact ⟨h0, h1, h2, h3, h4, h5, h6, h7, herr, h11, h12, h13, h14, hds, h19, hphase, hfail, h28⟩

end Sys2Proof.Machine
end

section
/-! PROOFS. The invariant of the block (10_state R40): it holds after reset, and every step keeps it. -/

namespace Sys2Proof.Machine

/-! ### The phases of one command, and what the arbiter admits in them -/

/-- Both are phases of INIT, or both of READ (42_state_machine R180). -/
def Phase.sameCommand (q p : Phase) : Bool := q.isInit && p.isInit || q.isRead && p.isRead

theorem Phase.isInit_excludes {p : Phase} (h : p.isInit = true) : p ≠ .idle ∧ p.isRead = false := by
  cases p <;> simp_all [isInit, isRead]

theorem Phase.isRead_excludes {p : Phase} (h : p.isRead = true) : p ≠ .idle ∧ p.isInit = false := by
  cases p <;> simp_all [isInit, isRead]

theorem Phase.sameCommand_agrees {q p : Phase} (h : q.sameCommand p = true) :
    q ≠ .idle ∧ p ≠ .idle ∧ p.isInit = q.isInit ∧ p.isRead = q.isRead := by
  simp only [sameCommand, Bool.or_eq_true, Bool.and_eq_true] at h
  obtain ⟨hq, hp⟩ | ⟨hq, hp⟩ := h
  · obtain ⟨hq0, hq1⟩ := isInit_excludes hq
    obtain ⟨hp0, hp1⟩ := isInit_excludes hp
    exact ⟨hq0, hp0, hp.trans hq.symm, hp1.trans hq1.symm⟩
  · obtain ⟨hq0, hq1⟩ := isRead_excludes hq
    obtain ⟨hp0, hp1⟩ := isRead_excludes hp
    exact ⟨hq0, hp0, hp1.trans hq1.symm, hp.trans hq.symm⟩

/-- Only a transaction phase asks for anything. -/
theorem isTransaction_of_request {p : Phase} {g t : Code} {r : Descriptor} (h : p.request g t = some r) :
    p.isTransaction = true := by
  cases p <;> cases h <;> rfl

/-- The arbiter admits what a phase asks for under the declared state the phase works in (41_register_map_arbiter R169). -/
theorem txnValid_of_declaredFits {p : Phase} {degraded : Bool} {ds : DState} {g t : Code} {r : Descriptor}
    (hd : declaredFits p degraded ds) (hr : p.request g t = some r) : txnValid ds r = true := by
  cases p <;> cases hr
  case iWrOsr => exact txnValid_wrOsrCfg ds
  case iRdId => exact (txnValid_rdId ds).mpr hd
  case iWrCtrl1 => exact (txnValid_wrCtrl1 ds g t).mpr hd
  case iWrCtrl2 => exact (txnValid_wrCtrl2 ds).mpr hd
  case rWrTrig => exact txnValid_wrOsrTrig ds
  case rPollRd => cases hd; exact (txnValid_rdStatus _).mpr nofun
  case rBlkRd => cases hd; cases degraded <;> exact (txnValid_rdResults _).mpr rfl
  case rWrCfg => exact txnValid_wrOsrCfg ds

/-- The block is never declared to be in Measurement(Idle). -/
theorem ne_measIdle_of_declaredFits {p : Phase} {degraded : Bool} {ds : DState} (hd : declaredFits p degraded ds) :
    ds ≠ .measIdle := by
  rintro rfl
  cases p <;> cases degraded <;> simp [declaredFits] at hd

/-- Outside the timed phases `WAIT_CNT` only has to keep below the ceiling. -/
theorem waitBounded_of_transaction {s : State} (hp : s.phase.isTransaction = true)
    (hw : s.waitCnt.toNat ≤ waitCeiling s) : waitBounded s := by
  unfold waitBounded
  split
  case h_1 hq | h_2 hq | h_3 hq => rw [hq] at hp; cases hp
  all_goals exact hw

/-- The integration time is never 0. -/
theorem intTimeOf_pos (c : Code) : 0 < (intTimeOf c).toNat := by revert c; decide

/-! ### What the invariant says of a state -/

theorem Inv.not_valid {s : State} (h : Inv s) (hp : s.phase ≠ .idle) : s.valid = false := by
  by_contra hv
  exact hp (h.valid_idle (by simpa using hv)).1

theorem Inv.declared_at {s : State} {q : Phase} (h : Inv s) (hq : s.phase = q) : declaredFits q s.degraded s.ds :=
  hq ▸ h.declared

/-- Before the poll loop is over a command in progress is not degraded. -/
theorem Inv.not_degraded {s : State} {q : Phase} (h : Inv s) (hq : s.phase = q)
    (hn : q ≠ .idle ∧ q ≠ .rBlkRd ∧ q ≠ .rWrCfg) : ¬s.degraded = true := by
  intro hg
  obtain ⟨hidle, hblk, hcfg⟩ := hn
  obtain h0 | h1 | h2 := h.degraded_phase hg
  · exact hidle (hq.symm.trans h0)
  · exact hblk (hq.symm.trans h1)
  · exact hcfg (hq.symm.trans h2)

theorem Inv.intTimeMs_eq {s : State} (h : Inv s) (hr : s.phase.isRead = true) : s.intTimeMs = intTimeOf s.timeCode :=
  (h.factors (h.read_phase hr)).2

/-- The ceiling bounds `WAIT_CNT` in every phase, since it is at least every target. -/
theorem Inv.waitCnt_le_ceiling {s : State} (h : Inv s) : s.waitCnt.toNat ≤ waitCeiling s := by
  have hw := h.wait_bounded
  unfold waitBounded at hw
  split at hw
  case h_1 => unfold waitCeiling; omega
  case h_2 hp =>
    have := intTimeOf_le s.timeCode
    rw [h.intTimeMs_eq (by rw [hp]; rfl)] at hw
    unfold waitCeiling; omega
  case h_3 => unfold waitCeiling; omega
  all_goals exact hw

/-! ### The shapes of change that keep the invariant -/

/-- The fields the invariant does not read. -/
theorem Inv.withUnread {s : State} (h : Inv s) {ovr idWarn : Bool} {devId : Byte} {blk : Block} {dev : Device}
    {abandoned : List Descriptor} {hostRdata : Word} {schedule : List Event} :
    Inv { s with
      ovr := ovr, idWarn := idWarn, devId := devId, blk := blk, dev := dev, abandoned := abandoned
      hostRdata := hostRdata, schedule := schedule } :=
  { h with }

/-- The tick counters, as long as they keep below their targets. -/
theorem Inv.withCounts {s : State} {w c : Count} (h : Inv s) (hw : waitBounded { s with waitCnt := w, pollCnt := c }) :
    Inv { s with waitCnt := w, pollCnt := c } :=
  { h with wait_bounded := hw }

/-- A command in progress moves on to another of its phases. -/
theorem Inv.advance {s : State} {q : Phase} {degraded : Bool} {w c : Count} {r : Descriptor} (h : Inv s)
    (p : Phase) (ds : DState) (hq : s.phase = q) (hc : q.sameCommand p = true)
    (hr : p.isTransaction = true → p.request s.gainCode s.timeCode = some r)
    (hd : declaredFits p degraded ds) (hg : degraded = true → p = .rBlkRd ∨ p = .rWrCfg)
    (hw : waitBounded { s with phase := p, waitCnt := w, pollCnt := c }) :
    Inv { s with
      phase := p, ds := ds, degraded := degraded, waitCnt := w, pollCnt := c
      reqPending := p.isTransaction, req := r } := by
  subst hq
  obtain ⟨hq, hp, hinit, hread⟩ := Phase.sameCommand_agrees hc
  exact { h with
    busy_phase := iff_of_true (h.busy_phase.mpr hq) hp
    pending_phase := rfl
    pending_request := hr
    valid_idle := fun hv => absurd (h.valid_idle hv).1 hq
    declared := hd
    degraded_phase := fun hdeg => .inr (hg hdeg)
    init_phase := fun hi => h.init_phase (hinit ▸ hi)
    read_phase := fun hi => h.read_phase (hread ▸ hi)
    wait_bounded := hw }

/-- A command in progress issues the transaction of its next phase, and the arbiter admits it. -/
theorem Inv.issueNext {s : State} {q : Phase} {degraded pending : Bool} {w c : Count} {r : Descriptor} (h : Inv s)
    (p : Phase) (ds : DState) (hq : s.phase = q) (hc : q.sameCommand p = true)
    (hr : p.request s.gainCode s.timeCode = some r) (hd : declaredFits p degraded ds)
    (hg : degraded = true → p = .rBlkRd ∨ p = .rWrCfg) (hw : w.toNat ≤ waitCeiling s) :
    Inv (issue r { s with
      phase := p, ds := ds, degraded := degraded, waitCnt := w, pollCnt := c, reqPending := pending }) := by
  have htxn := isTransaction_of_request hr
  have hnext := h.advance (w := w) (c := c) p ds hq hc (fun _ => hr) hd hg (waitBounded_of_transaction htxn hw)
  rw [htxn] at hnext
  rw [issue_of_valid (txnValid_of_declaredFits hd hr)]
  exact hnext

/-- What the invariant asks of an idle block. -/
structure IdleInv (s : State) : Prop where
  idle : s.phase = .idle
  not_busy : s.busy = false
  not_pending : s.reqPending = false
  factors : s.initOk = true → s.gainFactor = gainFactorOf s.gainCode ∧ s.intTimeMs = intTimeOf s.timeCode
  valid_initOk : s.initOk = false → s.valid = false
  valid_config : s.valid = true → s.ds = .config ∧ (s.err = .none ∨ s.err = .illegalCmd)
  results_zero : s.valid = false → resultsZero s
  not_measIdle : s.ds ≠ .measIdle
  no_violation : s.err ≠ .arbViolation
  fail_phase : if s.err = .busFail then s.failPhase.isTransaction = true else s.failPhase = .idle
  timing_fits : timingFits s
  wait_bounded : s.waitCnt.toNat ≤ waitCeiling s
  no_offer : s.offer = none

theorem IdleInv.inv {s : State} (h : IdleInv s) : Inv s where
  busy_phase := by simp [h.not_busy, h.idle]
  busy_done := by simp [h.not_busy]
  pending_phase := by simp [h.not_pending, h.idle, Phase.isTransaction]
  pending_request := by simp [h.not_pending]
  factors := h.factors
  valid_initOk := h.valid_initOk
  valid_idle := fun hv => ⟨h.idle, h.valid_config hv⟩
  results_zero := h.results_zero
  declared := by rw [h.idle]; exact h.not_measIdle
  degraded_phase := fun _ => .inl h.idle
  no_violation := h.no_violation
  init_phase := by simp [h.idle, Phase.isInit]
  read_phase := by simp [h.idle, Phase.isRead]
  busy_clean := by simp [h.not_busy]
  fail_phase := h.fail_phase
  timing_fits := h.timing_fits
  wait_bounded := by unfold waitBounded; rw [h.idle]; exact h.wait_bounded
  no_offer := h.no_offer

/-! ### Reset -/

/-- A block at its reset values, with parameters that fit the counters. -/
theorem blockReset_inv {s : State} (hf : timingFits s) (ho : s.offer = none) : Inv (blockReset s) :=
  IdleInv.inv {
    idle := rfl
    not_busy := rfl
    not_pending := rfl
    factors := nofun
    valid_initOk := fun _ => rfl
    valid_config := nofun
    results_zero := fun _ => by simp [resultsZero]
    not_measIdle := nofun
    no_violation := nofun
    fail_phase := rfl
    timing_fits := hf
    wait_bounded := Nat.zero_le _
    no_offer := ho }

/-- Settles O48: the block at power-up is the block a reset leaves, and the default parameters fit. -/
theorem resetSatisfiesTheInvariant : Obligations.ResetSatisfiesTheInvariant := by
  unfold Obligations.ResetSatisfiesTheInvariant
  have hf : timingFits State.reset := by unfold timingFits; decide
  exact blockReset_inv (s := State.reset) hf rfl

/-! ### HOST -/

theorem rejectCommand_inv {code : ErrCode} {s : State} (h : Inv s) (hb : s.busy = false)
    (hcode : code = .illegalCmd ∨ code = .notInit ∧ s.initOk = false) : Inv (rejectCommand code s) :=
  { h with
    busy_done := fun hbusy => absurd (hb.symm.trans hbusy) nofun
    valid_idle := fun hv => by
      obtain ⟨hp, hds, -⟩ := h.valid_idle hv
      obtain rfl | ⟨-, hi⟩ := hcode
      · exact ⟨hp, hds, .inr rfl⟩
      · exact absurd ((h.valid_initOk hi).symm.trans hv) nofun
    no_violation := by rintro rfl; simp at hcode
    busy_clean := fun hbusy => absurd (hb.symm.trans hbusy) nofun
    fail_phase := by rw [if_neg (by rintro rfl; simp at hcode)]; rfl }

theorem clearStatus_inv {w : Word} {s : State} (h : Inv s) : Inv (clearStatus w s) :=
  { h with
    busy_done := fun hb => by simp [h.busy_done hb] }

/-- An accepted command starts with nothing to show and its first request on the port. -/
theorem beginCommand_inv {s : State} {p : Phase} {g t : Code} {initOk idWarn : Bool} {r : Descriptor}
    (h : Inv s) (hp : p = .iWrOsr ∧ initOk = false ∨ p = .rWrTrig ∧ initOk = true)
    (hr : p.request g t = some r)
    (hf : initOk = true → s.gainFactor = gainFactorOf g ∧ s.intTimeMs = intTimeOf t) :
    Inv (placeRequest r { beginCommand s with
      initOk := initOk, idWarn := idWarn, gainCode := g, timeCode := t, phase := p }) where
  busy_phase := by obtain ⟨rfl, -⟩ | ⟨rfl, -⟩ := hp <;> simp
  busy_done := fun _ => rfl
  pending_phase := (isTransaction_of_request hr).symm
  pending_request := fun _ => hr
  factors := hf
  valid_initOk := fun _ => rfl
  valid_idle := nofun
  results_zero := fun _ => by simp [resultsZero]
  declared := by
    have hds := ne_measIdle_of_declaredFits h.declared
    obtain ⟨rfl, -⟩ | ⟨rfl, -⟩ := hp <;> exact hds
  degraded_phase := nofun
  no_violation := nofun
  init_phase := by obtain ⟨rfl, rfl⟩ | ⟨rfl, -⟩ := hp <;> simp [Phase.isInit]
  read_phase := by obtain ⟨rfl, -⟩ | ⟨rfl, rfl⟩ := hp <;> simp [Phase.isRead]
  busy_clean := fun _ => rfl
  fail_phase := rfl
  timing_fits := h.timing_fits
  wait_bounded := waitBounded_of_transaction (isTransaction_of_request hr) h.waitCnt_le_ceiling
  no_offer := h.no_offer

theorem acceptInit_inv {g t : Code} {s : State} (h : Inv s) : Inv (acceptInit g t s) := by
  rw [acceptInit_eq]
  exact beginCommand_inv h (.inl ⟨rfl, rfl⟩) rfl nofun

theorem acceptRead_inv {s : State} (h : Inv s) (hi : s.initOk = true) : Inv (acceptRead s) := by
  rw [acceptRead_eq]
  exact beginCommand_inv h (.inr ⟨rfl, hi⟩) rfl h.factors

theorem commandWrite_inv {w : Word} {s : State} (h : Inv s) : Inv (commandWrite w s) := by
  obtain he | ⟨-, he⟩ | ⟨-, he⟩ | ⟨-, hi, he⟩ | ⟨hb, code, hcode, he⟩ := commandWrite_cases w s <;> rw [he]
  · exact h
  · exact h.withUnread
  · exact acceptInit_inv h
  · exact acceptRead_inv h hi
  · exact rejectCommand_inv h hb hcode

theorem commandInit_inv {g t : Code} {s : State} (h : Inv s) : Inv (commandInit g t s) := by
  unfold commandInit; split
  · exact h.withUnread
  · exact acceptInit_inv h

theorem commandRead_inv {s : State} (h : Inv s) : Inv (commandRead s) := by
  unfold commandRead
  split <;> rename_i hb
  · exact h.withUnread
  split <;> rename_i hi
  · exact acceptRead_inv h hi
  · exact rejectCommand_inv h (by simpa using hb) (.inr ⟨rfl, by simpa using hi⟩)

theorem commandReserved_inv {s : State} (h : Inv s) : Inv (commandReserved s) := by
  unfold commandReserved
  split <;> rename_i hb
  · exact h.withUnread
  · exact rejectCommand_inv h (by simpa using hb) (.inl rfl)

theorem hostWrite_inv {off : Byte} {w : Word} {s t : State} (h : Inv s) (ht : hostWrite off w s = .next t) : Inv t := by
  obtain ⟨-, he⟩ | he | he | he := hostWrite_cases off w s <;> cases he.symm.trans ht
  · exact commandWrite_inv h
  · exact clearStatus_inv h
  · exact h

theorem hostRead_inv {off : Byte} {s t : State} (h : Inv s) (ht : hostRead off s = .next t) : Inv t := by
  unfold hostRead at ht
  split at ht <;> cases ht
  exact h.withUnread

/-- Everything HOST can ask for; the transactions are the sequencer's, and each is part of one of its own steps. -/
theorem exec_inv {i : Instr} {s t : State} (h : Inv s) (hi : isTransactionInstr i = false) (ht : exec i s = .next t) :
    Inv t := by
  cases i with
  | nop => cases ht; exact h
  | init g c => cases ht; exact commandInit_inv h
  | read => cases ht; exact commandRead_inv h
  | rsv3 | rsv4to7 _ | rsv8to15 _ => cases ht; exact commandReserved_inv h
  | hwrCmd w => exact hostWrite_inv (off := 0x00#8) (w := w) h ht
  | hwrStatus w => exact hostWrite_inv (off := 0x04#8) (w := w) h ht
  | hwrOther off w => exact hostWrite_inv (off := off) (w := w) h ht
  | hrd off => exact hostRead_inv h ht
  | wrOsrCfg | wrOsrTrig | rdId | wrCtrl1 _ _ | wrCtrl2 | rdStatus | rdResults => cases hi

/-! ### A response: `REQ_PENDING` is cleared, then the phase moves on or the command ends -/

theorem afterInitOsr_inv {s : State} (h : Inv s) (hp : s.phase = .iWrOsr) :
    Inv (afterInitOsr { s with reqPending := false }) := by
  have hsettle : 0 < s.settleMs.toNat := h.timing_fits.1
  exact h.advance .iSettle .config hp rfl nofun rfl (absurd · (h.not_degraded hp (by decide))) hsettle

theorem afterIdentity_inv {d : Byte} {s : State} (h : Inv s) (hp : s.phase = .iRdId) :
    Inv (afterIdentity d { s with reqPending := false }) := by
  have hds : s.ds = .config := h.declared_at hp
  exact h.withUnread.issueNext .iWrCtrl1 s.ds hp rfl rfl hds (absurd · (h.not_degraded hp (by decide)))
    h.waitCnt_le_ceiling

theorem afterCtrl1_inv {s : State} (h : Inv s) (hp : s.phase = .iWrCtrl1) :
    Inv (afterCtrl1 { s with reqPending := false }) := by
  have hds : s.ds = .config := h.declared_at hp
  exact h.issueNext .iWrCtrl2 s.ds hp rfl rfl hds (absurd · (h.not_degraded hp (by decide))) h.waitCnt_le_ceiling

/-- INIT ends: `INIT_OK` stands, with the factors of the latched codes. -/
theorem afterCtrl2_inv {s : State} (h : Inv s) (hp : s.phase = .iWrCtrl2) :
    Inv (afterCtrl2 { s with reqPending := false }) := by
  have hds : s.ds = .config := h.declared_at hp
  have hv : s.valid = false := h.not_valid (by rw [hp]; nofun)
  exact IdleInv.inv {
    idle := rfl
    not_busy := rfl
    not_pending := rfl
    factors := fun _ => ⟨rfl, rfl⟩
    valid_initOk := nofun
    valid_config := fun hvalid => absurd (hv.symm.trans hvalid) nofun
    results_zero := h.results_zero
    not_measIdle := ne_measIdle_of_declaredFits h.declared
    no_violation := h.no_violation
    fail_phase := h.fail_phase
    timing_fits := h.timing_fits
    wait_bounded := h.waitCnt_le_ceiling
    no_offer := h.no_offer }

theorem afterTrigger_inv {s : State} (h : Inv s) (hp : s.phase = .rWrTrig) :
    Inv (afterTrigger { s with reqPending := false }) := by
  have htarget : 0 < s.intTimeMs.toNat + s.procMarginMs.toNat := by
    have hpos := intTimeOf_pos s.timeCode
    rw [← h.intTimeMs_eq (by rw [hp]; rfl)] at hpos
    omega
  exact h.advance .rWait .measConv hp rfl nofun rfl (absurd · (h.not_degraded hp (by decide))) htarget

/-- Ready and the timeout lead to the block read, which works in Measurement(Ready) or, degraded, in Measurement(Converting). -/
theorem afterStatus_inv {d : Byte} {s : State} (h : Inv s) (hp : s.phase = .rPollRd) :
    Inv (afterStatus d { s with reqPending := false }) := by
  have hconv : s.ds = .measConv := h.declared_at hp
  have hready : declaredFits .rBlkRd s.degraded .measReady := (if_neg (h.not_degraded hp (by decide))).symm
  unfold afterStatus
  split
  · exact h.issueNext .rBlkRd .measReady hp rfl rfl hready (fun _ => .inl rfl) h.waitCnt_le_ceiling
  split <;> rename_i hbudget
  · have hwait : 0 < s.pollIntervalMs.toNat ∧ s.pollCnt.toNat < Config.pollBudgetMs := ⟨h.timing_fits.2.2, hbudget⟩
    exact h.advance .rPollWait s.ds hp rfl nofun hconv (absurd · (h.not_degraded hp (by decide))) hwait
  · exact h.issueNext .rBlkRd s.ds hp rfl rfl hconv (fun _ => .inl rfl) h.waitCnt_le_ceiling

theorem afterResults_inv {b : Block} {s : State} (h : Inv s) (hp : s.phase = .rBlkRd) :
    Inv (afterResults b { s with reqPending := false }) := by
  have hds : s.ds = if s.degraded then .measConv else .measReady := h.declared_at hp
  exact h.withUnread.issueNext .rWrCfg s.ds hp rfl rfl hds (fun _ => .inr rfl) h.waitCnt_le_ceiling

/-- READ ends: the results stand, in Configuration and without an error. -/
theorem afterReadOsr_inv {s : State} (h : Inv s) (hp : s.phase = .rWrCfg) :
    Inv (afterReadOsr { s with reqPending := false }) := by
  have hi : s.initOk = true := h.read_phase (by rw [hp]; rfl)
  have herr : s.err = .none := h.busy_clean (h.busy_phase.mpr (by rw [hp]; nofun))
  exact IdleInv.inv {
    idle := rfl
    not_busy := rfl
    not_pending := rfl
    factors := h.factors
    valid_initOk := fun hno => absurd (hi.symm.trans hno) nofun
    valid_config := fun _ => ⟨rfl, .inl herr⟩
    results_zero := nofun
    not_measIdle := nofun
    no_violation := h.no_violation
    fail_phase := h.fail_phase
    timing_fits := h.timing_fits
    wait_bounded := h.waitCnt_le_ceiling
    no_offer := h.no_offer }

theorem responseOk_inv {data : List Byte} {s t : State} (h : Inv s)
    (ht : responseOk data { s with reqPending := false } = .next t) : Inv t := by
  obtain ⟨hp, -, rfl⟩ | ⟨hp, d, -, rfl⟩ | ⟨hp, -, rfl⟩ | ⟨hp, -, rfl⟩ | ⟨hp, -, rfl⟩ | ⟨hp, d, -, rfl⟩
    | ⟨hp, b, -, rfl⟩ | ⟨hp, -, rfl⟩ := responseOk_cases ht
  · exact afterInitOsr_inv h hp
  · exact afterIdentity_inv h hp
  · exact afterCtrl1_inv h hp
  · exact afterCtrl2_inv h hp
  · exact afterTrigger_inv h hp
  · exact afterStatus_inv h hp
  · exact afterResults_inv h hp
  · exact afterReadOsr_inv h hp

/-- A failed response ends the command; all that varies is whether the declared state and `INIT_OK` are given up. -/
theorem busFailure_eq_abort (s : State) : ∃ ds initOk,
    busFailure s = abort .busFail { s with ds := ds, initOk := initOk }
    ∧ (ds = s.ds ∨ ds = .off) ∧ (initOk = true → s.initOk = true) := by
  unfold busFailure
  split
  · exact ⟨.off, s.initOk, rfl, .inr rfl, id⟩
  · exact ⟨.off, false, rfl, .inr rfl, nofun⟩
  · exact ⟨.off, false, rfl, .inr rfl, nofun⟩
  all_goals exact ⟨s.ds, s.initOk, rfl, .inl rfl, id⟩

theorem busFailure_inv {s : State} (h : Inv s) (hp : s.phase.isTransaction = true) :
    Inv (busFailure { s with reqPending := false }) := by
  obtain ⟨ds, initOk, he, hds, hi⟩ := busFailure_eq_abort { s with reqPending := false }
  have hv : s.valid = false := h.not_valid (by rintro hidle; rw [hidle] at hp; cases hp)
  rw [he]
  exact IdleInv.inv {
    idle := rfl
    not_busy := rfl
    not_pending := rfl
    factors := fun ho => h.factors (hi ho)
    valid_initOk := fun _ => hv
    valid_config := fun hvalid => absurd (hv.symm.trans hvalid) nofun
    results_zero := h.results_zero
    not_measIdle := by
      obtain rfl | rfl := hds
      · exact ne_measIdle_of_declaredFits h.declared
      · exact nofun
    no_violation := nofun
    fail_phase := hp
    timing_fits := h.timing_fits
    wait_bounded := h.waitCnt_le_ceiling
    no_offer := h.no_offer }

theorem respond_inv {ok : Bool} {data : List Byte} {s t : State} (h : Inv s) (ht : respond ok data s = .next t) :
    Inv t := by
  unfold respond at ht
  split at ht
  · split at ht
    · exact responseOk_inv h ht
    · unfold responseFail at ht
      split at ht <;> cases ht
      exact busFailure_inv h ‹_›
  · cases ht; exact h

/-! ### A tick -/

theorem tickSettle_inv {s : State} (h : Inv s) (hp : s.phase = .iSettle) : Inv (tickSettle s) := by
  have hds : s.ds = .config := h.declared_at hp
  have hlt : s.waitCnt.toNat < s.settleMs.toNat := by simpa [waitBounded, hp] using h.wait_bounded
  have hcount := incrementWait_toNat (v := s.waitCnt) (by omega)
  unfold tickSettle; dsimp only
  split <;> rename_i htarget
  · refine h.issueNext .iRdId s.ds hp rfl rfl hds (absurd · (h.not_degraded hp (by decide))) ?_
    unfold waitCeiling; omega
  · refine h.withCounts ?_
    simp only [waitBounded, hp]; omega

theorem tickWait_inv {s : State} (h : Inv s) (hp : s.phase = .rWait) : Inv (tickWait s) := by
  have hds : s.ds = .measConv := h.declared_at hp
  have hlt : s.waitCnt.toNat < s.intTimeMs.toNat + s.procMarginMs.toNat := by
    simpa [waitBounded, hp] using h.wait_bounded
  have htime : s.intTimeMs.toNat ≤ 2 ^ 15 := by rw [h.intTimeMs_eq (by rw [hp]; rfl)]; exact intTimeOf_le _
  have hmargin : s.procMarginMs.toNat ≤ 0x7FFF := h.timing_fits.2.1
  have hcount := incrementWait_toNat (v := s.waitCnt) (by omega)
  unfold tickWait; dsimp only
  split <;> rename_i htarget
  · refine h.issueNext .rPollRd s.ds hp rfl rfl hds (absurd · (h.not_degraded hp (by decide))) ?_
    unfold waitCeiling; omega
  · refine h.withCounts ?_
    simp only [waitBounded, hp]; omega

theorem tickPollWait_inv {s : State} (h : Inv s) (hp : s.phase = .rPollWait) : Inv (tickPollWait s) := by
  have hds : s.ds = .measConv := h.declared_at hp
  obtain ⟨hlt, hpoll⟩ : s.waitCnt.toNat < s.pollIntervalMs.toNat
      ∧ s.pollCnt.toNat < Config.pollBudgetMs + s.waitCnt.toNat := by
    simpa [waitBounded, hp] using h.wait_bounded
  have hcount := incrementWait_toNat (v := s.waitCnt) (by omega)
  have hpollCount := saturatingIncrement_toNat s.pollCnt
  unfold tickPollWait; dsimp only
  split <;> rename_i htarget
  · refine h.issueNext .rPollRd s.ds hp rfl rfl hds (absurd · (h.not_degraded hp (by decide))) ?_
    unfold waitCeiling; omega
  · refine h.withCounts ?_
    simp only [waitBounded, hp]; omega

theorem blockTick_inv {s : State} (h : Inv s) : Inv (blockTick s) := by
  unfold blockTick
  split <;> rename_i hp
  · exact tickSettle_inv h hp
  · exact tickWait_inv h hp
  · exact h.withCounts (waitBounded_of_transaction (by simp [hp, Phase.isTransaction]) h.waitCnt_le_ceiling)
  · exact tickPollWait_inv h hp
  all_goals exact h

/-! ### The step -/

theorem transportAnswer_inv {c : Choice} {s t : State} (h : Inv s) (ht : transportAnswer c s = .next t) : Inv t := by
  unfold transportAnswer at ht
  split at ht
  · exact respond_inv h.withUnread ht
  · cases ht; exact h

theorem lateAnswer_inv {k : Nat} {c : Choice} {s t : State} (h : Inv s) (ht : lateAnswer k c s = .next t) : Inv t := by
  unfold lateAnswer at ht
  split at ht <;> cases ht
  exact h.withUnread

theorem deviceReady_inv {m : Sample} {s t : State} (h : Inv s) (ht : deviceReady m s = .next t) : Inv t := by
  unfold deviceReady at ht
  split at ht <;> cases ht
  exact h.withUnread

theorem environmentStep_inv {e : EnvEvent} {s t : State} (h : Inv s) (ht : environmentStep e s = .next t) : Inv t := by
  cases e with
  | transport c => exact transportAnswer_inv h ht
  | late k c => exact lateAnswer_inv h ht
  | devReady m => exact deviceReady_inv h ht
  | tick => cases ht; exact (blockTick_inv h).withUnread
  | reset => cases ht; exact blockReset_inv h.timing_fits h.no_offer

/-- Settles O49, by the event that comes next: an access of HOST, a step of the environment, or nothing. -/
theorem everyStepKeepsTheInvariant : Obligations.EveryStepKeepsTheInvariant := by
  unfold Obligations.EveryStepKeepsTheInvariant
  intro s t h ht
  have ho := h.no_offer
  match hs : s.schedule with
  | [] =>
    rw [step_of_empty ho hs] at ht
    cases ht; exact h
  | .env e :: rest =>
    rw [step_of_env ho hs] at ht
    exact environmentStep_inv h.withUnread ht
  | .host width desc w :: rest =>
    match hd : decodeAccess width desc w with
    | .ok i =>
      rw [step_of_access ho hs hd] at ht
      exact exec_inv h.withUnread (decodeAccess_notTransaction hd) ht
    | .error e =>
      rw [step_of_badAccess ho hs hd] at ht
      cases ht

end Sys2Proof.Machine
end

section
/-! PROOFS. Memory as the block sees it (20_memory): the host accesses it does not define, and the byte order of the block read. -/

namespace Sys2Proof.Machine

/-! ### Accesses with no meaning (R65) -/

theorem offsetAligned_eq_false_iff (off : Byte) : offsetAligned off = false ↔ off.toNat % 4 ≠ 0 := by
  rw [← Bool.not_eq_true, offsetAligned_iff]

/-- The offset is the low eight bits of the access, so the direction bit does not matter to its alignment. -/
theorem accessOffset_toNat_mod (desc : BitVec 9) : (desc.extractLsb' 0 8).toNat % 4 = desc.toNat % 4 := by
  simp only [BitVec.extractLsb'_toNat, Nat.shiftRight_zero]
  omega

theorem hostWrite_of_misaligned {off : Byte} (w : Word) (s : State) (h : off.toNat % 4 ≠ 0) :
    hostWrite off w s = .refused .misalignedAccess :=
  if_pos ((offsetAligned_eq_false_iff off).mpr h)

theorem hostRead_of_misaligned {off : Byte} (s : State) (h : off.toNat % 4 ≠ 0) :
    hostRead off s = .refused .misalignedAccess :=
  if_pos ((offsetAligned_eq_false_iff off).mpr h)

theorem decodeAccess_of_width {width : Nat} (desc : BitVec 9) (w : Word) (h : width ≠ 32) :
    decodeAccess width desc w = .error .width :=
  if_pos h

theorem decodeAccess_of_misaligned {desc : BitVec 9} (w : Word) (h : desc.toNat % 4 ≠ 0) :
    decodeAccess 32 desc w = .error .misaligned := by
  have hoff : offsetAligned (desc.extractLsb' 0 8) = false := by
    rw [offsetAligned_eq_false_iff, accessOffset_toNat_mod]; exact h
  rw [decodeAccess, if_neg (by decide), if_pos hoff]

/-- Settles O12: the instructions refuse the offset themselves, and in the step the access does not decode. -/
theorem undefinedAccessIsRefused : Obligations.UndefinedAccessIsRefused := by
  unfold Obligations.UndefinedAccessIsRefused
  refine ⟨fun s off w h => ⟨hostRead_of_misaligned s h, hostWrite_of_misaligned w s h⟩,
    fun s width desc w rest ho hs => ⟨fun hw => ?_, fun hw hd => ?_⟩⟩
  · exact step_of_badAccess ho hs (decodeAccess_of_width desc w hw)
  · subst hw
    exact step_of_badAccess ho hs (decodeAccess_of_misaligned w hd)

/-! ### The byte order (R67) -/

/-- Two bytes joined to a count are a number whose low byte is the second. -/
theorem toNat_append_bytes (hi lo : Byte) : (hi ++ lo : Count).toNat = lo.toNat + 256 * hi.toNat := by
  rw [BitVec.toNat_append, ← Nat.shiftLeft_add_eq_or_of_lt lo.isLt, Nat.shiftLeft_eq]
  omega

/-- Settles O37: each count joins its two bytes, the one at the higher offset on top. -/
theorem blockDecodesLittleEndian : Obligations.BlockDecodesLittleEndian := by
  unfold Obligations.BlockDecodesLittleEndian
  exact fun b => ⟨toNat_append_bytes b.b1 b.b0, toNat_append_bytes b.b3 b.b2, toNat_append_bytes b.b5 b.b4,
    toNat_append_bytes b.b7 b.b6⟩

end Sys2Proof.Machine
end

section
/-! PROOFS. The three formats (30_encoding): command words by `OP` (R91), host accesses (R92), transaction descriptors (R95);
that encoding and decoding invert each other, and that a word placed for the next step runs as what it decodes to. -/

namespace Sys2Proof

open Machine

/-! ### Command words (R90, R91) -/

/-- `OP` is the word modulo 16. -/
theorem cmdOp_toNat (w : Word) : (cmdOp w).toNat = w.toNat % 16 := by
  simp [cmdOp]

theorem cmdOp_eq_of_mod {w : Word} {op : BitVec 4} (h : w.toNat % 16 = op.toNat) : cmdOp w = op :=
  BitVec.eq_of_toNat_eq ((cmdOp_toNat w).trans h)

theorem decodeCmd_of_nop {w : Word} (h : cmdOp w = 0#4) : decodeCmd w = .nop := by
  simp [decodeCmd, h]

theorem decodeCmd_of_init {w : Word} (h : cmdOp w = 1#4) : decodeCmd w = .init (cmdGain w) (cmdTime w) := by
  simp [decodeCmd, h]

theorem decodeCmd_of_read {w : Word} (h : cmdOp w = 2#4) : decodeCmd w = .read := by
  simp [decodeCmd, h]

theorem decodeCmd_of_rsv3 {w : Word} (h : cmdOp w = 3#4) : decodeCmd w = .rsv3 := by
  simp [decodeCmd, h]

/-- From 4 on `OP` is reserved, and its upper two bits say with which operand. -/
theorem decodeCmd_of_reserved {w : Word} (h : 4 ≤ (cmdOp w).toNat) : decodeCmd w =
    if (cmdOp w).extractLsb' 2 2 = 0b01#2 then .rsv4to7 ((cmdOp w).extractLsb' 0 2)
    else .rsv8to15 ((cmdOp w).extractLsb' 0 3) := by
  have hne {op : BitVec 4} (hop : op.toNat < 4) : cmdOp w ≠ op := by rintro rfl; omega
  rw [decodeCmd, if_neg (hne (by decide)), if_neg (hne (by decide)), if_neg (hne (by decide)), if_neg (hne (by decide))]

/-- `OP` with upper bits 01 is 4 to 7, and its lower two bits are the operand. -/
theorem decodeCmd_of_rsv4to7 {w : Word} {op : BitVec 2} (h : cmdOp w = 0b01#2 ++ op) : decodeCmd w = .rsv4to7 op := by
  have hge : ∀ op : BitVec 2, 4 ≤ (0b01#2 ++ op : BitVec 4).toNat := by decide
  rw [decodeCmd_of_reserved (h ▸ hge op), h, BitVec.extractLsb'_append_eq_left, if_pos rfl,
    BitVec.extractLsb'_append_eq_right]

/-- `OP` with top bit 1 is 8 to 15, and its lower three bits are the operand. -/
theorem decodeCmd_of_rsv8to15 {w : Word} {op : BitVec 3} (h : cmdOp w = 1#1 ++ op) : decodeCmd w = .rsv8to15 op := by
  have hge : ∀ op : BitVec 3, 4 ≤ (1#1 ++ op : BitVec 4).toNat := by decide
  have hupper : ∀ op : BitVec 3, (1#1 ++ op : BitVec 4).extractLsb' 2 2 ≠ 0b01#2 := by decide
  rw [decodeCmd_of_reserved (h ▸ hge op), h, if_neg (hupper op), BitVec.extractLsb'_append_eq_right]

/-- The six ranges of `OP`, as the decoder tells them apart. -/
theorem cmdOp_split (op : BitVec 4) :
    (4 ≤ op.toNat → op.toNat ≤ 7 → op = 0b01#2 ++ op.extractLsb' 0 2)
    ∧ (8 ≤ op.toNat → op = 1#1 ++ op.extractLsb' 0 3) := by
  revert op; decide

/-- Settles O19, by the range `OP` is in. -/
theorem everyCommandWordDecodes : Obligations.EveryCommandWordDecodes := by
  unfold Obligations.EveryCommandWordDecodes
  intro w
  obtain ⟨hmid, hhigh⟩ := cmdOp_split (cmdOp w)
  rw [cmdOp_toNat] at hmid hhigh
  have hlow2 : (cmdOp w).extractLsb' 0 2 = w.extractLsb' 0 2 := BitVec.extractLsb'_extractLsb'_of_le (by decide)
  have hlow3 : (cmdOp w).extractLsb' 0 3 = w.extractLsb' 0 3 := BitVec.extractLsb'_extractLsb'_of_le (by decide)
  refine ⟨fun h => decodeCmd_of_nop (cmdOp_eq_of_mod h), fun h => decodeCmd_of_init (cmdOp_eq_of_mod h),
    fun h => decodeCmd_of_read (cmdOp_eq_of_mod h), fun h => decodeCmd_of_rsv3 (cmdOp_eq_of_mod h),
    fun h4 h7 => ?_, fun h8 => ?_⟩
  · exact decodeCmd_of_rsv4to7 (hlow2 ▸ hmid h4 h7)
  · exact decodeCmd_of_rsv8to15 (hlow3 ▸ hhigh h8)

/-- No operand of a command can be wrong. -/
theorem decodeCmd_wf (w : Word) : (decodeCmd w).wf = true := by
  unfold decodeCmd
  repeat' split
  all_goals rfl

/-! ### Host accesses (R92) -/

theorem decode_access_eq_ok {width : Nat} {desc : BitVec 9} {w : Word} {i : Instr} :
    decode (.access width desc w) = .ok i ↔ decodeAccess width desc w = .ok i := by
  simp only [decode]
  split <;> simp_all

theorem decodeAccess_write {off : Byte} (w : Word) (ha : offsetAligned off = true) (h0 : off ≠ 0x00#8) (h4 : off ≠ 0x04#8) :
    decodeAccess 32 (1#1 ++ off) w = .ok (.hwrOther off w) := by
  obtain ⟨hoff, hdir⟩ := writeDescriptor_fields off
  obtain ⟨hcmd, hstatus⟩ := writeDescriptor_other h0 h4
  simp [decodeAccess, hoff, hdir, hcmd, hstatus, ha]

/-- A read's offset, and that its direction is that of no write. -/
theorem readDescriptor_fields (off : Byte) :
    (0#1 ++ off : BitVec 9).extractLsb' 0 8 = off ∧ (0#1 ++ off : BitVec 9).extractLsb' 8 1 = 0#1
    ∧ (0#1 ++ off : BitVec 9) ≠ 0x100#9 ∧ (0#1 ++ off : BitVec 9) ≠ 0x104#9 := by
  revert off; decide

theorem decodeAccess_read {off : Byte} (w : Word) (ha : offsetAligned off = true) :
    decodeAccess 32 (0#1 ++ off) w = .ok (.hrd off) := by
  obtain ⟨hoff, hdir, hcmd, hstatus⟩ := readDescriptor_fields off
  simp [decodeAccess, hoff, hdir, hcmd, hstatus, ha]

/-- An access that decodes is 32 bits wide and is one of the four rows. -/
theorem decodeAccess_cases {width : Nat} {desc : BitVec 9} {w : Word} {i : Instr} (h : decodeAccess width desc w = .ok i) :
    width = 32 ∧ (desc = 0x100#9 ∧ i = .hwrCmd w ∨ desc = 0x104#9 ∧ i = .hwrStatus w
      ∨ ∃ off, offsetAligned off = true ∧
        (off ≠ 0x00#8 ∧ off ≠ 0x04#8 ∧ desc = 1#1 ++ off ∧ i = .hwrOther off w ∨ desc = 0#1 ++ off ∧ i = .hrd off)) := by
  have hdesc : desc.extractLsb' 8 1 ++ desc.extractLsb' 0 8 = desc := BitVec.extractLsb'_append_extractLsb'
  unfold decodeAccess at h
  split at h <;> rename_i hwidth
  · cases h
  refine ⟨not_not.mp hwidth, ?_⟩
  split at h <;> rename_i ha
  · cases h
  split at h <;> rename_i hcmd
  · cases h; exact .inl ⟨hcmd, rfl⟩
  split at h <;> rename_i hstatus
  · cases h; exact .inr (.inl ⟨hstatus, rfl⟩)
  replace ha := Bool.eq_true_of_not_eq_false ha
  split at h <;> rename_i hdir <;> cases h
  · rw [hdir] at hdesc
    refine .inr (.inr ⟨_, ha, .inl ⟨fun h0 => hcmd ?_, fun h4 => hstatus ?_, hdesc.symm, rfl⟩⟩)
    · rw [← hdesc, h0]; rfl
    · rw [← hdesc, h4]; rfl
  · rw [(BitVec.eq_zero_or_eq_one _).resolve_right hdir] at hdesc
    exact .inr (.inr ⟨_, ha, .inr ⟨hdesc.symm, rfl⟩⟩)

theorem decodeAccess_wf {width : Nat} {desc : BitVec 9} {w : Word} {i : Instr} (h : decodeAccess width desc w = .ok i) :
    i.wf = true := by
  obtain ⟨-, ⟨-, rfl⟩ | ⟨-, rfl⟩ | ⟨off, ha, ⟨h0, h4, -, rfl⟩ | ⟨-, rfl⟩⟩⟩ := decodeAccess_cases h
  · rfl
  · rfl
  · simp [Instr.wf, ha, h0, h4]
  · exact ha

/-- Bit 8 of the descriptor is the direction; a read's encoding has a zero word. -/
theorem encode_of_decodeAccess {width : Nat} {desc : BitVec 9} {w : Word} {i : Instr}
    (h : decodeAccess width desc w = .ok i) : encode i = .access 32 desc (if desc.getLsbD 8 then w else 0#32) := by
  obtain ⟨-, ⟨rfl, rfl⟩ | ⟨rfl, rfl⟩ | ⟨off, -, ⟨-, -, rfl, rfl⟩ | ⟨rfl, rfl⟩⟩⟩ := decodeAccess_cases h
  · rfl
  · rfl
  · rw [BitVec.getLsbD_append]; rfl
  · rw [BitVec.getLsbD_append]; rfl

/-! ### Transaction descriptors (R93, R95) -/

/-- The fields of a descriptor, each shifted to its place. -/
theorem descriptor_eq (kind : BitVec 2) (len : BitVec 3) (reg data : Byte) : descriptor kind len reg data =
    kind.setWidth 24 <<< 22 ||| len.setWidth 24 <<< 19 ||| reg.setWidth 24 <<< 8 ||| data.setWidth 24 := by
  rw [← BitVec.setWidth_eq (descriptor kind len reg data), descriptor]
  simp only [BitVec.setWidth_append_eq_shiftLeft_setWidth_or, BitVec.shiftLeft_or_distrib, ← BitVec.shiftLeft_add]
  simp

/-- WR_CTRL1 has its two codes in the low byte (R99). -/
theorem descWrCtrl1_eq (g t : Code) : descWrCtrl1 g t = 0x000600#24 ||| g.setWidth 24 <<< 4 ||| t.setWidth 24 := by
  rw [descWrCtrl1, descriptor_eq, BitVec.setWidth_append_eq_shiftLeft_setWidth_or, ← BitVec.or_assoc]
  rfl

/-- Settles O21: the descriptors without operands by evaluation, the other two by where the fields stand. -/
theorem descriptorsAreTheListedOnes : Obligations.DescriptorsAreTheListedOnes := by
  unfold Obligations.DescriptorsAreTheListedOnes
  exact ⟨rfl, rfl, rfl, fun g t => congrArg Frame.txn (descWrCtrl1_eq g t), rfl, rfl, rfl, descriptor_eq⟩

/-- The register and the two codes of WR_CTRL1. -/
theorem descWrCtrl1_fields (g t : Code) : txnReg (descWrCtrl1 g t) = Config.ctrl1Addr
    ∧ (descWrCtrl1 g t).extractLsb' 4 4 = g ∧ (descWrCtrl1 g t).extractLsb' 0 4 = t := by
  simp (disch := omega) only [txnReg, descWrCtrl1, descriptor, BitVec.extractLsb'_append_eq_of_le,
    BitVec.extractLsb'_append_eq_of_add_le]
  simp

/-- Its register tells WR_CTRL1 apart from the descriptors before it in the list. -/
theorem decodeTxn_descWrCtrl1 (g t : Code) : decodeTxn (descWrCtrl1 g t) = .ok (.wrCtrl1 g t) := by
  obtain ⟨hreg, hgain, htime⟩ := descWrCtrl1_fields g t
  have hne {d : Descriptor} (hd : txnReg d ≠ Config.ctrl1Addr) : descWrCtrl1 g t ≠ d := by rintro rfl; exact hd hreg
  rw [decodeTxn, if_neg (hne (by decide)), if_neg (hne (by decide)), if_neg (hne (by decide)), hgain, htime, if_pos rfl]

/-- The listed descriptor that was met is the descriptor itself. -/
theorem encode_of_decodeTxn {d : Descriptor} {i : Instr} (h : decodeTxn d = .ok i) : encode i = .txn d := by
  unfold decodeTxn at h
  repeat' split at h
  all_goals cases h
  all_goals rename_i hd; exact congrArg Frame.txn hd.symm

/-- Only a host access can be ill-formed. -/
theorem wf_of_encode_txn {d : Descriptor} {i : Instr} (h : encode i = .txn d) : i.wf = true := by
  cases i with
  | hwrOther off w | hrd off => cases h
  | _ => rfl

/-! ### Encoding and decoding invert each other -/

theorem decode_wf {f : Frame} {i : Instr} (h : decode f = .ok i) : i.wf = true := by
  cases f with
  | cmd w => cases h; exact decodeCmd_wf w
  | access width desc w => exact decodeAccess_wf (decode_access_eq_ok.mp h)
  | txn d => exact wf_of_encode_txn (encode_of_decodeTxn h)

/-- Settles O17, by the instruction: its own fields come back from the format it is encoded in. -/
theorem decodeInvertsEncode : Obligations.DecodeInvertsEncode := by
  unfold Obligations.DecodeInvertsEncode
  intro i hwf
  cases i with
  | init g t =>
    have hd := decodeCmd_of_init (cmdOp_cmdWord t g 1#4)
    rw [cmdGain_cmdWord, cmdTime_cmdWord] at hd
    exact congrArg Except.ok hd
  | rsv4to7 op => exact congrArg Except.ok (decodeCmd_of_rsv4to7 (cmdOp_cmdWord 0 0 _))
  | rsv8to15 op => exact congrArg Except.ok (decodeCmd_of_rsv8to15 (cmdOp_cmdWord 0 0 _))
  | hwrOther off w =>
    simp only [Instr.wf, Bool.and_eq_true, bne_iff_ne] at hwf
    obtain ⟨⟨ha, h0⟩, h4⟩ := hwf
    exact decode_access_eq_ok.mpr (decodeAccess_write w ha h0 h4)
  | hrd off => exact decode_access_eq_ok.mpr (decodeAccess_read 0#32 hwf)
  | wrCtrl1 g t => exact decodeTxn_descWrCtrl1 g t
  | nop | read | rsv3 | hwrCmd w | hwrStatus w => rfl
  | wrOsrCfg | wrOsrTrig | rdId | wrCtrl2 | rdStatus | rdResults => rfl

/-- Settles O18, format by format. -/
theorem decodedFrameIsTheEncoding : Obligations.DecodedFrameIsTheEncoding := by
  unfold Obligations.DecodedFrameIsTheEncoding
  exact ⟨fun _ _ => decode_wf, fun _ _ => encode_of_decodeTxn,
    fun _ _ _ _ h => encode_of_decodeAccess (decode_access_eq_ok.mp h)⟩

/-- Settles O20, by evaluation. -/
theorem writtenOutWordsDecode : Obligations.WrittenOutWordsDecode := by
  unfold Obligations.WrittenOutWordsDecode
  decide

/-! ### The placed word (40_host_commands R120) -/

theorem decode_of_decodeTableWord {nbits w : Nat} {i : Instr} (h : decodeTableWord nbits w = some i) :
    decode (frameOfTableWord nbits w) = .ok i := by
  unfold decodeTableWord at h
  split at h <;> cases h
  assumption

/-- A word whose `OP` is none of NOP, INIT and READ is rejected. -/
theorem exec_decodeCmd_of_reserved {w : Word} (s : State) (h0 : cmdOp w ≠ 0#4) (h1 : cmdOp w ≠ 1#4) (h2 : cmdOp w ≠ 2#4) :
    exec (decodeCmd w) s = .next (commandReserved s) := by
  rw [decodeCmd, if_neg h0, if_neg h1, if_neg h2]
  repeat' split
  all_goals rfl

/-- The decoder and the write to `CMD` tell the same cases of `OP` apart (40_host_commands R123). -/
theorem exec_decodeCmd (w : Word) (s : State) : exec (decodeCmd w) s = .next (commandWrite w s) := by
  unfold commandWrite
  split
  case isTrue h0 => rw [decodeCmd_of_nop h0]; rfl
  case isFalse h0 =>
    by_cases h1 : cmdOp w = 1#4
    · rw [decodeCmd_of_init h1, if_pos h1]; rfl
    by_cases h2 : cmdOp w = 2#4
    · rw [decodeCmd_of_read h2]
      cases hi : s.initOk <;> simp [exec, execRead, commandRead, h2, hi]
    · rw [exec_decodeCmd_of_reserved s h0 h1 h2, if_neg h1, if_neg (mt And.left h2), if_neg h2]; rfl

theorem exec_hwrCmd (w : Word) (s : State) : exec (.hwrCmd w) s = exec (decodeCmd w) s :=
  (exec_decodeCmd w s).symm

theorem step_placeFrame {f : Frame} {i : Instr} (s : State) (h : decode f = .ok i) :
    step (placeFrame f s) = exec i { s with offer := none } := by
  cases f with
  | cmd w => cases h; exact (step_of_access rfl rfl rfl).trans (exec_hwrCmd w _)
  | access width desc w => exact step_of_access rfl rfl (decode_access_eq_ok.mp h)
  | txn d => exact step_of_offer rfl h

/-- Settles O16: the word's frame is placed, and the frame runs. -/
theorem placedWordRunsNext : Obligations.PlacedWordRunsNext := by
  unfold Obligations.PlacedWordRunsNext
  exact fun s _ _ _ h => step_placeFrame s (decode_of_decodeTableWord h)

end Sys2Proof
end

section
/-! PROOFS. What HOST can ask for (40_host_commands): the commands, as themselves and as words written to `CMD`, the other
host accesses, and the step that runs an access. -/

namespace Sys2Proof

open Machine

/-! ### Each command, by the state it meets (R123) -/

theorem commandInit_of_busy (g t : Code) {s : State} (hb : s.busy = true) : commandInit g t s = dropCommand s :=
  if_pos hb

theorem commandInit_of_idle (g t : Code) {s : State} (hb : s.busy = false) : commandInit g t s = acceptInit g t s := by
  simp [commandInit, hb]

theorem commandRead_of_busy {s : State} (hb : s.busy = true) : commandRead s = dropCommand s :=
  if_pos hb

theorem commandRead_of_initOk {s : State} (hb : s.busy = false) (hi : s.initOk = true) : commandRead s = acceptRead s := by
  simp [commandRead, hb, hi]

theorem commandRead_of_not_initOk {s : State} (hb : s.busy = false) (hi : s.initOk = false) :
    commandRead s = rejectCommand .notInit s := by
  simp [commandRead, hb, hi]

theorem commandReserved_of_busy {s : State} (hb : s.busy = true) : commandReserved s = dropCommand s :=
  if_pos hb

theorem commandReserved_of_idle {s : State} (hb : s.busy = false) : commandReserved s = rejectCommand .illegalCmd s := by
  simp [commandReserved, hb]

/-! ### A word written to `CMD`, by its `OP` (R123) -/

theorem exec_hwrCmd_of_nop {w : Word} (s : State) (h : cmdOp w = 0#4) : exec (.hwrCmd w) s = .next s := by
  rw [exec_hwrCmd, decodeCmd_of_nop h]; rfl

theorem exec_hwrCmd_of_init {w : Word} (s : State) (h : cmdOp w = 1#4) :
    exec (.hwrCmd w) s = exec (.init (cmdGain w) (cmdTime w)) s := by
  rw [exec_hwrCmd, decodeCmd_of_init h]

theorem exec_hwrCmd_of_read {w : Word} (s : State) (h : cmdOp w = 2#4) : exec (.hwrCmd w) s = exec .read s := by
  rw [exec_hwrCmd, decodeCmd_of_read h]

theorem exec_hwrCmd_of_reserved {w : Word} (s : State) (h : 3 ≤ (cmdOp w).toNat) :
    exec (.hwrCmd w) s = .next (commandReserved s) := by
  have hne {op : BitVec 4} (hop : op.toNat < 3) : cmdOp w ≠ op := by rintro rfl; omega
  rw [exec_hwrCmd, exec_decodeCmd_of_reserved s (hne (by decide)) (hne (by decide)) (hne (by decide))]

theorem commandWrite_of_busy {w : Word} {s : State} (h0 : cmdOp w ≠ 0#4) (hb : s.busy = true) :
    commandWrite w s = dropCommand s :=
  (if_neg h0).trans (if_pos hb)

/-- Settles O6: the decoder and the write to `CMD` tell the same cases of `OP` apart. -/
theorem commandWordRunsItsCommand : Obligations.CommandWordRunsItsCommand := by
  unfold Obligations.CommandWordRunsItsCommand
  exact fun s w => ⟨exec_hwrCmd w s, commandWrite w s, rfl⟩

/-- The decoder reads `OP`, and `GAIN` and `TIME` only where `OP` is INIT (R130). -/
theorem decodeCmd_congr {v w : Word} (hop : cmdOp v = cmdOp w)
    (hinit : cmdOp v = 1#4 → cmdGain v = cmdGain w ∧ cmdTime v = cmdTime w) : decodeCmd v = decodeCmd w := by
  by_cases h1 : cmdOp v = 1#4
  · obtain ⟨hgain, htime⟩ := hinit h1
    rw [decodeCmd_of_init h1, decodeCmd_of_init (hop ▸ h1), hgain, htime]
  · rw [decodeCmd, decodeCmd, ← hop, if_neg h1, if_neg h1]

/-- `GAIN` and `TIME` are the two halves of bits 15 to 8. -/
theorem cmdCodes_of_extractLsb' (w : Word) :
    cmdGain w = (w.extractLsb' 8 8).extractLsb' 0 4 ∧ cmdTime w = (w.extractLsb' 8 8).extractLsb' 4 4 := by
  have hpart (k : Nat) (hk : k + 4 ≤ 8) : w.extractLsb' (8 + k) 4 = (w.extractLsb' 8 8).extractLsb' k 4 := by
    ext i hi
    simp [show k + i < 8 by omega, Nat.add_assoc]
  exact ⟨hpart 0 (by decide), hpart 4 (by decide)⟩

/-- Settles O7: words that agree on the bits the decoder reads are the same command. -/
theorem ignoredCommandBitsHaveNoEffect : Obligations.IgnoredCommandBitsHaveNoEffect := by
  unfold Obligations.IgnoredCommandBitsHaveNoEffect
  refine ⟨fun s v w hop hcodes => ?_, rfl, rfl⟩
  have hdecode : decodeCmd v = decodeCmd w := decodeCmd_congr hop fun h1 => by
    obtain ⟨hgainV, htimeV⟩ := cmdCodes_of_extractLsb' v
    obtain ⟨hgainW, htimeW⟩ := cmdCodes_of_extractLsb' w
    rw [hgainV, hgainW, htimeV, htimeW, hcodes h1]
    exact ⟨rfl, rfl⟩
  rw [exec_hwrCmd, exec_hwrCmd, hdecode]

/-- Settles O1: a word with `OP` 0 decodes to NOP. -/
theorem nopChangesNothing : Obligations.NopChangesNothing := by
  unfold Obligations.NopChangesNothing
  exact fun s => ⟨rfl, fun _ h => exec_hwrCmd_of_nop s h⟩

/-- Settles O2: `BUSY` is asked first by every command but NOP. -/
theorem busyCommandIsDropped : Obligations.BusyCommandIsDropped := by
  unfold Obligations.BusyCommandIsDropped
  intro s hb
  have hreserved : exec .rsv3 s = .next (dropCommand s) := congrArg Host.Outcome.next (commandReserved_of_busy hb)
  exact ⟨fun w h0 => congrArg Host.Outcome.next (commandWrite_of_busy h0 hb),
    fun g t => congrArg Host.Outcome.next (commandInit_of_busy g t hb),
    congrArg Host.Outcome.next (commandRead_of_busy hb), hreserved, fun _ => hreserved, fun _ => hreserved⟩

/-- Settles O3: the request of INIT is admitted in every declared state, so INIT is always sent. -/
theorem initIsAccepted : Obligations.InitIsAccepted := by
  unfold Obligations.InitIsAccepted
  intro s g t hb
  refine ⟨fun w hop hgain htime => ?_, ?_⟩
  · subst hgain htime
    exact exec_hwrCmd_of_init s hop
  · exact congrArg Host.Outcome.next ((commandInit_of_idle g t hb).trans (acceptInit_eq g t s))

/-- Settles O4, for READ by the word's `OP` and for the reserved commands by their being one command. -/
theorem rejectedCommandRecordsItsError : Obligations.RejectedCommandRecordsItsError := by
  unfold Obligations.RejectedCommandRecordsItsError
  intro s hb
  have hreserved : exec .rsv3 s = .next (rejectCommand .illegalCmd s) :=
    congrArg Host.Outcome.next (commandReserved_of_idle hb)
  refine ⟨fun hi => ?_, fun w h3 => (exec_hwrCmd_of_reserved s h3).trans hreserved, hreserved, fun _ => hreserved,
    fun _ => hreserved⟩
  have hread : exec .read s = .next (rejectCommand .notInit s) := congrArg Host.Outcome.next (commandRead_of_not_initOk hb hi)
  exact ⟨hread, fun w h2 => (exec_hwrCmd_of_read s h2).trans hread⟩

/-- Settles O5: the request of READ is admitted in every declared state, so READ is always sent. -/
theorem readIsAccepted : Obligations.ReadIsAccepted := by
  unfold Obligations.ReadIsAccepted
  exact fun s hb hi => ⟨fun _ h2 => exec_hwrCmd_of_read s h2,
    congrArg Host.Outcome.next ((commandRead_of_initOk hb hi).trans (acceptRead_eq s))⟩

/-! ### The other host accesses (R121, R131, R132) -/

theorem hostWrite_of_other {off : Byte} (w : Word) (s : State) (ha : off.toNat % 4 = 0) (h8 : 0x08 ≤ off.toNat) :
    hostWrite off w s = .next s := by
  have hne {o : Byte} (ho : o.toNat < 0x08) : off ≠ o := by rintro rfl; omega
  rw [hostWrite, (offsetAligned_iff off).mpr ha, if_neg (by decide), if_neg (hne (by decide)), if_neg (hne (by decide))]

/-- Settles O8: from 0x08 on the offset is neither that of `CMD` nor that of `STATUS`. -/
theorem otherWritesChangeNothing : Obligations.OtherWritesChangeNothing := by
  unfold Obligations.OtherWritesChangeNothing
  exact fun s _ w => hostWrite_of_other w s

theorem clearStatus_eq (w : Word) (s : State) :
    clearStatus w s = { s with done := s.done && !w.getLsbD 1, ovr := s.ovr && !w.getLsbD 6 } := by
  have hclear (clear flag : Bool) : (if clear then false else flag) = (flag && !clear) := by
    cases clear <;> simp
  rw [clearStatus, hclear, hclear]

/-- Settles O9: a flag that a bit of the word clears is the flag and not the bit. -/
theorem statusWriteClearsDoneAndOverrun : Obligations.StatusWriteClearsDoneAndOverrun := by
  unfold Obligations.StatusWriteClearsDoneAndOverrun
  exact fun s w => congrArg Host.Outcome.next (clearStatus_eq w s)

/-- A read of an aligned offset hands out what the register table holds there. -/
theorem exec_hrd_of_register {off : Byte} {s : State} {r : Word} (ha : off.toNat % 4 = 0) (hr : s.hostRegister off = r) :
    exec (.hrd off) s = .next { s with hostRdata := r } := by
  subst hr
  exact if_neg (by rw [(offsetAligned_iff off).mpr ha]; decide)

/-- From 0x28 on there is no register. -/
theorem hostRegister_of_unmapped {off : Byte} (s : State) (h : 0x28 ≤ off.toNat) : s.hostRegister off = 0#32 := by
  have hne {o : Byte} (ho : o.toNat < 0x28) : off ≠ o := by rintro rfl; omega
  rw [State.hostRegister]
  iterate 9 rw [if_neg (hne (by decide))]

/-- Settles O10, row by row of the table. -/
theorem hostReadReturnsTheRegister : Obligations.HostReadReturnsTheRegister := by
  unfold Obligations.HostReadReturnsTheRegister
  intro s status hstatus
  subst hstatus
  exact ⟨exec_hrd_of_register rfl rfl, exec_hrd_of_register rfl rfl, exec_hrd_of_register rfl rfl,
    exec_hrd_of_register rfl rfl, exec_hrd_of_register rfl rfl, exec_hrd_of_register rfl rfl,
    exec_hrd_of_register rfl rfl, exec_hrd_of_register rfl rfl, exec_hrd_of_register rfl rfl,
    exec_hrd_of_register rfl rfl, fun _ ha h => exec_hrd_of_register ha (hostRegister_of_unmapped s h)⟩

/-! ### The step (R120, R289) -/

/-- Settles O13: the access decodes as the frame does. -/
theorem stepRunsTheHostAccess : Obligations.StepRunsTheHostAccess := by
  unfold Obligations.StepRunsTheHostAccess
  exact fun _ _ _ _ _ _ ho hs hd => step_of_access ho hs (decode_access_eq_ok.mp hd)

end Sys2Proof
end

section
/-! PROOFS. The arbiter (41_register_map_arbiter): what it admits, an offered descriptor as a step, and each transaction in the
declared states that admit it and in those that refuse it. -/

namespace Sys2Proof.Machine

/-! ### The predicate (R154, R155) -/

theorem DState.cls_eq_meas_iff (ds : DState) : ds.cls = .meas ↔ ds ∈ [DState.measIdle, .measConv, .measReady] := by
  cases ds <;> decide

/-- Settles O22, line by line of the predicate: three lines refuse a malformed descriptor, the next admits an OSR write in any
state, and the last leaves the rest to the class of the declared state. -/
theorem arbiterAdmitsExactlyTheListed : Obligations.ArbiterAdmitsExactlyTheListed := by
  unfold Obligations.ArbiterAdmitsExactlyTheListed
  intro ds t
  rw [← txnKind, ← txnRsv, ← txnLenM1, ← txnData, ← txnReg, txnValid]
  split
  case isTrue hbad => exact iff_of_false nofun fun ⟨hkind, hrsv, _⟩ => hbad.elim hkind (· hrsv)
  split
  case isTrue hbad => exact iff_of_false nofun fun ⟨_, _, hlen, _⟩ => hbad.2 (hlen hbad.1)
  split
  case isTrue hbad => exact iff_of_false nofun fun ⟨_, _, _, hdata, _⟩ => hbad.2 (hdata hbad.1)
  rename_i hfixed hlen hdata
  obtain ⟨hkind, hrsv⟩ : txnKind t ≠ 0b11#2 ∧ txnRsv t = 0#3 := by rwa [not_or, not_not] at hfixed
  rw [not_and_not_right] at hlen hdata
  rw [and_iff_right hkind, and_iff_right hrsv, and_iff_right hlen, and_iff_right hdata]
  split
  case isTrue hosr => exact iff_of_true rfl (.inl hosr)
  case isFalse hosr =>
    refine .trans ?_ (or_iff_right hosr).symm
    cases ds with
    | off => simp [DState.cls]
    | config =>
      simp [DState.cls, Config.osrAddr, Config.idAddr, Config.ctrl1Addr, Config.ctrl2Addr, Config.ctrl3Addr]
    | measIdle | measConv | measReady => simp [DState.cls, Config.statusAddr, Config.tempAddr]

/-! ### An offered descriptor -/

/-- Settles O14: the descriptor decodes as the frame does. -/
theorem stepRunsTheOfferedTransaction : Obligations.StepRunsTheOfferedTransaction := by
  unfold Obligations.StepRunsTheOfferedTransaction
  exact fun _ _ ho => ⟨fun _ => step_of_offer ho, fun _ => step_of_unlistedOffer ho⟩

/-! ### The seven transactions (R157, R160 to R167) -/

/-- A transaction is the `issue` of the descriptor it is encoded in. -/
theorem exec_of_encode_txn {i : Instr} {d : Descriptor} (s : State) (h : encode i = .txn d) :
    exec i s = .next (issue d s) := by
  cases i <;> cases h <;> rfl

theorem exec_of_admitted {i : Instr} {d : Descriptor} {s : State} (hi : encode i = .txn d) (hd : txnValid s.ds d = true) :
    exec i s = .next (placeRequest d s) :=
  (exec_of_encode_txn s hi).trans (congrArg _ (issue_of_valid hd))

theorem exec_of_notAdmitted {i : Instr} {d : Descriptor} {s : State} (hi : encode i = .txn d) (hd : txnValid s.ds d ≠ true) :
    exec i s = .next (abortArb s) :=
  (exec_of_encode_txn s hi).trans (congrArg _ (issue_of_invalid (Bool.eq_false_iff.mpr hd)))

/-- Settles O23: the arbiter admits each of the seven in the declared states of its clause. -/
theorem admittedTransactionIsPlaced : Obligations.AdmittedTransactionIsPlaced := by
  unfold Obligations.AdmittedTransactionIsPlaced
  intro s
  refine ⟨?_, ?_, fun h => ?_, fun h g t => ?_, fun h => ?_, fun h => ?_, fun h => ?_⟩
  · exact exec_of_admitted rfl (txnValid_wrOsrCfg s.ds)
  · exact exec_of_admitted rfl (txnValid_wrOsrTrig s.ds)
  · exact exec_of_admitted rfl ((txnValid_rdId s.ds).mpr h)
  · rw [← descWrCtrl1_eq]; exact exec_of_admitted rfl ((txnValid_wrCtrl1 s.ds g t).mpr h)
  · exact exec_of_admitted rfl ((txnValid_wrCtrl2 s.ds).mpr h)
  · exact exec_of_admitted rfl ((txnValid_rdStatus s.ds).mpr h)
  · exact exec_of_admitted rfl ((txnValid_rdResults s.ds).mpr ((DState.cls_eq_meas_iff s.ds).mpr h))

/-- Settles O24: in no declared state of a clause does the arbiter admit the clause's transactions. -/
theorem refusedTransactionAborts : Obligations.RefusedTransactionAborts := by
  unfold Obligations.RefusedTransactionAborts
  rintro s i (⟨h, rfl | ⟨g, t, rfl⟩ | rfl⟩ | ⟨h, rfl⟩ | ⟨h, rfl⟩)
  · exact exec_of_notAdmitted rfl (mt (txnValid_rdId s.ds).mp h)
  · exact exec_of_notAdmitted rfl (mt (txnValid_wrCtrl1 s.ds g t).mp h)
  · exact exec_of_notAdmitted rfl (mt (txnValid_wrCtrl2 s.ds).mp h)
  · exact exec_of_notAdmitted rfl (mt (txnValid_rdStatus s.ds).mp (not_not_intro h))
  · refine exec_of_notAdmitted rfl (mt (txnValid_rdResults s.ds).mp ?_)
    obtain h | h := h <;> rw [h] <;> decide

end Sys2Proof.Machine
end

section
/-! PROOFS. What the sequencer does with a response (42_state_machine R181 to R205): each phase's answer, the status byte's three
ways, and the failure that ends a command. -/

namespace Sys2Proof.Machine

/-! ### The answer each phase takes -/

theorem respond_of_not_pending {s : State} (ok : Bool) (data : List Byte) (h : s.reqPending = false) :
    respond ok data s = .next s := by
  simp [respond, h]

theorem respond_ok {s : State} (data : List Byte) (h : s.reqPending = true) :
    respond true data s = responseOk data { s with reqPending := false } := by
  simp [respond, h]

section
variable {s : State} (hr : s.reqPending = true)
include hr

theorem respond_iWrOsr (hp : s.phase = .iWrOsr) :
    respond true [] s = .next (afterInitOsr { s with reqPending := false }) := by
  rw [respond_ok [] hr]; simp only [responseOk, hp, onWritten]

theorem respond_iRdId (d : Byte) (hp : s.phase = .iRdId) :
    respond true [d] s = .next (afterIdentity d { s with reqPending := false }) := by
  rw [respond_ok [d] hr]; simp only [responseOk, hp, onByte]

theorem respond_iWrCtrl1 (hp : s.phase = .iWrCtrl1) :
    respond true [] s = .next (afterCtrl1 { s with reqPending := false }) := by
  rw [respond_ok [] hr]; simp only [responseOk, hp, onWritten]

theorem respond_iWrCtrl2 (hp : s.phase = .iWrCtrl2) :
    respond true [] s = .next (afterCtrl2 { s with reqPending := false }) := by
  rw [respond_ok [] hr]; simp only [responseOk, hp, onWritten]

theorem respond_rWrTrig (hp : s.phase = .rWrTrig) :
    respond true [] s = .next (afterTrigger { s with reqPending := false }) := by
  rw [respond_ok [] hr]; simp only [responseOk, hp, onWritten]

theorem respond_rPollRd (d : Byte) (hp : s.phase = .rPollRd) :
    respond true [d] s = .next (afterStatus d { s with reqPending := false }) := by
  rw [respond_ok [d] hr]; simp only [responseOk, hp, onByte]

theorem respond_rBlkRd (b : Block) (hp : s.phase = .rBlkRd) :
    respond true b.bytes s = .next (afterResults b { s with reqPending := false }) := by
  rw [respond_ok b.bytes hr]; simp only [responseOk, hp, Block.bytes, onBlock]

theorem respond_rWrCfg (hp : s.phase = .rWrCfg) :
    respond true [] s = .next (afterReadOsr { s with reqPending := false }) := by
  rw [respond_ok [] hr]; simp only [responseOk, hp, onWritten]

theorem respond_fail (data : List Byte) (hp : s.phase.isTransaction = true) :
    respond false data s = .next (busFailure { s with reqPending := false }) := by
  simp [respond, responseFail, hr, hp]

/-- The request of the next phase takes the place of the one just answered. -/
theorem issue_of_answered {r : Descriptor} (hv : txnValid s.ds r = true) :
    issue r { s with reqPending := false } = { s with req := r } := by
  refine (issue_of_valid (s := { s with reqPending := false }) hv).trans ?_
  cases s; cases hr; rfl

/-! ### The status byte: ready, wait, or time out -/

theorem respond_ready {d : Byte} (hp : s.phase = .rPollRd) (hd : d.getLsbD Config.ndataBit = true) :
    respond true [d] s = .next { s with ds := .measReady, phase := .rBlkRd, req := descRdResults } := by
  rw [respond_rPollRd hr d hp, afterStatus, if_pos hd]
  exact congrArg _ (issue_of_answered (s := { s with ds := .measReady, phase := .rBlkRd }) hr
    ((txnValid_rdResults .measReady).mpr rfl))

theorem respond_notReady {d : Byte} (hp : s.phase = .rPollRd) (hd : d.getLsbD Config.ndataBit = false)
    (hc : s.pollCnt.toNat < Config.pollBudgetMs) :
    respond true [d] s = .next { s with reqPending := false, waitCnt := 0#16, phase := .rPollWait } := by
  rw [respond_rPollRd hr d hp, afterStatus, if_neg (Bool.eq_false_iff.mp hd), if_pos hc]

theorem respond_timeout {d : Byte} (hp : s.phase = .rPollRd) (hd : d.getLsbD Config.ndataBit = false)
    (hc : Config.pollBudgetMs ≤ s.pollCnt.toNat)
    (hds : s.ds = .measConv) :
    respond true [d] s = .next { s with degraded := true, phase := .rBlkRd, req := descRdResults } := by
  rw [respond_rPollRd hr d hp, afterStatus, if_neg (Bool.eq_false_iff.mp hd), if_neg (Nat.not_lt.mpr hc)]
  exact congrArg _ (issue_of_answered (s := { s with degraded := true, phase := .rBlkRd }) hr
    ((txnValid_rdResults s.ds).mpr (hds ▸ rfl)))

end

/-- Settles O26: the step hands the response to nobody either. -/
theorem unaskedResponseIsDiscarded : Obligations.UnaskedResponseIsDiscarded := by
  unfold Obligations.UnaskedResponseIsDiscarded
  refine fun s hr => ⟨fun ok data => respond_of_not_pending ok data hr, fun c rest ho hs => ?_⟩
  exact (step_of_env ho hs).trans (if_neg (Bool.eq_false_iff.mp hr))

/-- Settles O27: the two OSR writes that start a wait. -/
theorem firstOsrResponseStartsTheWait : Obligations.FirstOsrResponseStartsTheWait := by
  unfold Obligations.FirstOsrResponseStartsTheWait
  exact fun s hr => ⟨respond_iWrOsr hr, respond_rWrTrig hr⟩

/-- Settles O28: in Configuration the arbiter admits the writes of CTRL1 and of CTRL2. -/
theorem initResponsesWriteTheControlRegisters : Obligations.InitResponsesWriteTheControlRegisters := by
  unfold Obligations.InitResponsesWriteTheControlRegisters
  refine fun s hr hds => ⟨fun hp d => ?_, fun hp => ?_, respond_iWrCtrl2 hr⟩
  · have hwarn : (s.idWarn || decide (d.extractLsb' 4 4 ≠ 0x2#4))
        = if d.extractLsb' 4 4 ≠ Config.expectedDevId then true else s.idWarn := by
      by_cases hid : d.extractLsb' 4 4 = 0x2#4 <;> simp [hid, Config.expectedDevId]
    rw [respond_iRdId hr d hp, ← descWrCtrl1_eq, hwarn]
    exact congrArg _ (issue_of_answered (s := { s with devId := d, idWarn := _, phase := .iWrCtrl1 }) hr
      ((txnValid_wrCtrl1 _ _ _).mpr hds))
  · rw [respond_iWrCtrl1 hr hp]
    exact congrArg _ (issue_of_answered (s := { s with phase := .iWrCtrl2 }) hr ((txnValid_wrCtrl2 _).mpr hds))

/-- Settles O29: the three ways of the status byte. -/
theorem statusResponseDecides : Obligations.StatusResponseDecides := by
  unfold Obligations.StatusResponseDecides
  exact fun s d hr hp => ⟨respond_ready hr hp, respond_notReady hr hp, respond_timeout hr hp⟩

/-- Settles O30: the return to Configuration is admitted in every declared state. -/
theorem resultResponseHoldsTheBytes : Obligations.ResultResponseHoldsTheBytes := by
  unfold Obligations.ResultResponseHoldsTheBytes
  refine fun s b hr hp => (respond_rBlkRd hr b hp).trans ?_
  exact congrArg _ (issue_of_answered (s := { s with blk := b, phase := .rWrCfg }) hr (txnValid_wrOsrCfg _))

/-- Settles O31: the commit and the end of READ are one step. -/
theorem readEndCommitsTheSample : Obligations.ReadEndCommitsTheSample := by
  unfold Obligations.ReadEndCommitsTheSample
  exact fun s => respond_rWrCfg

/-- What a failed response gives up is told by the phase (R183). -/
theorem busFailure_eq (s : State) : busFailure s = abort .busFail { s with
    ds := if s.phase ∈ [Phase.iWrOsr, .rWrTrig, .rWrCfg] then .off else s.ds
    initOk := if s.phase ∈ [Phase.rWrTrig, .rWrCfg] then false else s.initOk } := by
  unfold busFailure
  split <;> rename_i hp <;> simp [abort, hp]

/-- Settles O32, by what the phase gives up. -/
theorem busFailureAborts : Obligations.BusFailureAborts := by
  unfold Obligations.BusFailureAborts
  intro s data hr hp
  rw [respond_fail hr data hp, busFailure_eq]
  rfl

end Sys2Proof.Machine
end

section
/-! PROOFS. What the sequencer does with a tick (42_state_machine R187, R196, R197, R201, R204), and how long its waits last
(R301, R336, R337). -/

namespace Sys2Proof.Machine

/-! ### One tick, by the phase -/

theorem saturatingIncrement_eq (v : Count) : saturatingIncrement v = BitVec.ofNat 16 (min (v.toNat + 1) 0xFFFF) := by
  apply BitVec.eq_of_toNat_eq
  rw [saturatingIncrement_toNat, BitVec.toNat_ofNat]
  omega

theorem blockTick_untimed {s : State}
    (hp : s.phase ∈ [Phase.idle, .iWrOsr, .iRdId, .iWrCtrl1, .iWrCtrl2, .rWrTrig, .rBlkRd, .rWrCfg]) : blockTick s = s := by
  unfold blockTick
  split <;> simp_all

theorem blockTick_rPollRd {s : State} (hp : s.phase = .rPollRd) :
    blockTick s = { s with pollCnt := BitVec.ofNat 16 (min (s.pollCnt.toNat + 1) 0xFFFF) } := by
  simp only [blockTick, hp, saturatingIncrement_eq]

section
variable {s : State} (hw : s.waitCnt ≠ 0xFFFF#16)
include hw

theorem blockTick_settle_counts (hp : s.phase = .iSettle) (ht : s.waitCnt + 1#16 ≠ s.settleMs) :
    blockTick s = { s with waitCnt := s.waitCnt + 1#16 } := by
  simp only [blockTick, hp, tickSettle, incrementWait_of_ne hw, if_neg (mt BitVec.eq_of_toNat_eq ht)]

theorem blockTick_settle_ends (hp : s.phase = .iSettle) (hds : s.ds = .config) (ht : s.waitCnt + 1#16 = s.settleMs) :
    blockTick s = placeRequest descRdId { s with waitCnt := s.settleMs, phase := .iRdId } := by
  simp only [blockTick, hp, tickSettle, incrementWait_of_ne hw, ht, if_true]
  exact issue_of_valid ((txnValid_rdId s.ds).mpr hds)

theorem blockTick_wait_counts (hp : s.phase = .rWait)
    (ht : (s.waitCnt + 1#16).toNat ≠ s.intTimeMs.toNat + s.procMarginMs.toNat) :
    blockTick s = { s with waitCnt := s.waitCnt + 1#16 } := by
  simp only [blockTick, hp, tickWait, incrementWait_of_ne hw, if_neg ht]

theorem blockTick_wait_ends (hp : s.phase = .rWait) (hds : s.ds = .measConv)
    (ht : (s.waitCnt + 1#16).toNat = s.intTimeMs.toNat + s.procMarginMs.toNat) :
    blockTick s =
      placeRequest descRdStatus { s with waitCnt := s.waitCnt + 1#16, pollCnt := 0#16, phase := .rPollRd } := by
  simp only [blockTick, hp, tickWait, incrementWait_of_ne hw, if_pos ht]
  exact issue_of_valid ((txnValid_rdStatus s.ds).mpr (by rw [hds]; nofun))

theorem blockTick_pollWait_counts (hp : s.phase = .rPollWait) (ht : s.waitCnt + 1#16 ≠ s.pollIntervalMs) :
    blockTick s =
      { s with waitCnt := s.waitCnt + 1#16, pollCnt := BitVec.ofNat 16 (min (s.pollCnt.toNat + 1) 0xFFFF) } := by
  simp only [blockTick, hp, tickPollWait, incrementWait_of_ne hw, saturatingIncrement_eq,
    if_neg (mt BitVec.eq_of_toNat_eq ht)]

theorem blockTick_pollWait_ends (hp : s.phase = .rPollWait) (hds : s.ds = .measConv)
    (ht : s.waitCnt + 1#16 = s.pollIntervalMs) :
    blockTick s = placeRequest descRdStatus { s with
      waitCnt := s.pollIntervalMs, pollCnt := BitVec.ofNat 16 (min (s.pollCnt.toNat + 1) 0xFFFF), phase := .rPollRd } := by
  simp only [blockTick, hp, tickPollWait, incrementWait_of_ne hw, saturatingIncrement_eq, ht, if_true]
  exact issue_of_valid ((txnValid_rdStatus s.ds).mpr (by rw [hds]; nofun))

end

/-- Settles O33, phase by phase. -/
theorem tickDoesWhatThePhaseSays : Obligations.TickDoesWhatThePhaseSays := by
  unfold Obligations.TickDoesWhatThePhaseSays
  exact fun s hw => ⟨blockTick_untimed, blockTick_settle_counts hw, blockTick_settle_ends hw, blockTick_wait_counts hw,
    blockTick_wait_ends hw, blockTick_rPollRd, blockTick_pollWait_counts hw, blockTick_pollWait_ends hw⟩

/-! ### A whole wait -/

/-- `u` lists the states of a wait: before its last tick each leads to the next, and the last tick leads to `last`. -/
theorem wait_lasts {u : Nat → State} {target : Nat} {last : State} (hpos : 0 < target)
    (hcount : ∀ n, n + 1 < target → blockTick (u n) = u (n + 1))
    (hlast : ∀ n, n + 1 = target → blockTick (u n) = last) :
    (∀ n, n < target → blockTick^[n] (u 0) = u n) ∧ blockTick^[target] (u 0) = last := by
  have hreach : ∀ n, n < target → blockTick^[n] (u 0) = u n := by
    intro n
    induction n with
    | zero => exact fun _ => rfl
    | succ n ih =>
      intro hn
      rw [Function.iterate_succ_apply', ih (by omega), hcount n hn]
  obtain ⟨m, rfl⟩ : ∃ m, target = m + 1 := ⟨target - 1, by omega⟩
  refine ⟨hreach, ?_⟩
  rw [Function.iterate_succ_apply', hreach m (by omega), hlast m rfl]

/-- A wait of which `n` ticks are over. -/
def State.waited (s : State) (n : Nat) : State := { s with waitCnt := BitVec.ofNat 16 n }

/-- A poll interval of which `n` ticks are over, entered with `WAIT_CNT` 0; the poll counter stays at its top. -/
def State.pollWaited (s : State) (n : Nat) : State :=
  { s with waitCnt := BitVec.ofNat 16 n, pollCnt := BitVec.ofNat 16 (min (s.pollCnt.toNat + n) 0xFFFF) }

theorem waited_zero {s : State} (h : s.waitCnt = 0#16) : s.waited 0 = s := by
  rw [State.waited, ← h]

theorem pollWaited_zero {s : State} (h : s.waitCnt = 0#16) : s.pollWaited 0 = s := by
  have hpoll : BitVec.ofNat 16 (min (s.pollCnt.toNat + 0) 0xFFFF) = s.pollCnt := by
    have := s.pollCnt.isLt
    rw [Nat.min_eq_left (by omega), Nat.add_zero, BitVec.ofNat_toNat, BitVec.setWidth_eq]
  rw [State.pollWaited, hpoll, ← h]

theorem count_toNat {n : Nat} (h : n ≤ 0xFFFF) : (BitVec.ofNat 16 n).toNat = n := by
  rw [BitVec.toNat_ofNat]; omega

theorem count_ne_top {n : Nat} (h : n < 0xFFFF) : BitVec.ofNat 16 n ≠ 0xFFFF#16 := by
  have hn := count_toNat h.le
  exact fun he => by rw [he] at hn; simp at hn; omega

theorem count_succ_eq_iff {n : Nat} {c : Count} (h : n < 0xFFFF) : BitVec.ofNat 16 n + 1#16 = c ↔ n + 1 = c.toNat := by
  rw [count_succ, ← BitVec.toNat_inj, count_toNat h]

/-- One more tick of a poll interval. -/
theorem pollCount_succ (c n : Nat) :
    BitVec.ofNat 16 (min ((BitVec.ofNat 16 (min (c + n) 0xFFFF)).toNat + 1) 0xFFFF)
      = BitVec.ofNat 16 (min (c + (n + 1)) 0xFFFF) := by
  rw [count_toNat (by omega)]
  congr 1; omega

theorem intTimeOf_toNat (c : Code) : (intTimeOf c).toNat = 2 ^ c.toNat := by
  revert c; decide

theorem settle_tick {s : State} {n : Nat} (hp : s.phase = .iSettle) (hn : n + 1 < s.settleMs.toNat) :
    blockTick (s.waited n) = s.waited (n + 1) := by
  have hfits := s.settleMs.isLt
  have ht : BitVec.ofNat 16 n + 1#16 ≠ s.settleMs := mt (count_succ_eq_iff (by omega)).mp (by omega)
  rw [blockTick_settle_counts (s := s.waited n) (count_ne_top (by omega)) hp ht]
  simp only [State.waited, count_succ]

theorem settle_lastTick {s : State} {n : Nat} (hp : s.phase = .iSettle) (hds : s.ds = .config)
    (hn : n + 1 = s.settleMs.toNat) :
    blockTick (s.waited n) = placeRequest descRdId { s with waitCnt := s.settleMs, phase := .iRdId } := by
  have hfits := s.settleMs.isLt
  exact blockTick_settle_ends (s := s.waited n) (count_ne_top (by omega)) hp hds ((count_succ_eq_iff (by omega)).mpr hn)

theorem conversion_tick {s : State} {n : Nat} (hp : s.phase = .rWait)
    (hn : n + 1 < s.intTimeMs.toNat + s.procMarginMs.toNat) (hfits : n < 0xFFFF) :
    blockTick (s.waited n) = s.waited (n + 1) := by
  have ht : (BitVec.ofNat 16 n + 1#16).toNat ≠ s.intTimeMs.toNat + s.procMarginMs.toNat := by
    rw [count_succ, count_toNat hfits]; omega
  rw [blockTick_wait_counts (s := s.waited n) (count_ne_top hfits) hp ht]
  simp only [State.waited, count_succ]

theorem conversion_lastTick {s : State} {n : Nat} (hp : s.phase = .rWait) (hds : s.ds = .measConv)
    (hn : n + 1 = s.intTimeMs.toNat + s.procMarginMs.toNat) (hfits : n < 0xFFFF) :
    blockTick (s.waited n) =
      placeRequest descRdStatus { s with waitCnt := BitVec.ofNat 16 (n + 1), pollCnt := 0#16, phase := .rPollRd } := by
  have ht : (BitVec.ofNat 16 n + 1#16).toNat = s.intTimeMs.toNat + s.procMarginMs.toNat := by
    rw [count_succ, count_toNat hfits]; exact hn
  rw [blockTick_wait_ends (s := s.waited n) (count_ne_top hfits) hp hds ht]
  simp only [State.waited, count_succ]

theorem pollWait_tick {s : State} {n : Nat} (hp : s.phase = .rPollWait) (hn : n + 1 < s.pollIntervalMs.toNat) :
    blockTick (s.pollWaited n) = s.pollWaited (n + 1) := by
  have hfits := s.pollIntervalMs.isLt
  have ht : BitVec.ofNat 16 n + 1#16 ≠ s.pollIntervalMs := mt (count_succ_eq_iff (by omega)).mp (by omega)
  rw [blockTick_pollWait_counts (s := s.pollWaited n) (count_ne_top (by omega)) hp ht]
  simp only [State.pollWaited, count_succ, pollCount_succ]

theorem pollWait_lastTick {s : State} {n : Nat} (hp : s.phase = .rPollWait) (hds : s.ds = .measConv)
    (hn : n + 1 = s.pollIntervalMs.toNat) :
    blockTick (s.pollWaited n) = placeRequest descRdStatus { s.pollWaited (n + 1) with phase := .rPollRd } := by
  have hfits := s.pollIntervalMs.isLt
  have ht : BitVec.ofNat 16 n + 1#16 = s.pollIntervalMs := (count_succ_eq_iff (by omega)).mpr hn
  rw [blockTick_pollWait_ends (s := s.pollWaited n) (count_ne_top (by omega)) hp hds ht]
  simp only [State.pollWaited, pollCount_succ, ← ht, count_succ]

/-- Settles O34: the settle counts to `SETTLE_MS`, and the arbiter admits the identity read. -/
theorem settleLastsItsTicks : Obligations.SettleLastsItsTicks := by
  unfold Obligations.SettleLastsItsTicks
  intro s hp hds hw hpos
  have hlasts := wait_lasts (u := s.waited) hpos (fun _ => settle_tick hp) (fun _ => settle_lastTick hp hds)
  rw [waited_zero hw] at hlasts
  exact hlasts

/-- Settles O35: the wait counts to the integration time and the margin, and the arbiter admits the status read. -/
theorem conversionWaitLastsItsTicks : Obligations.ConversionWaitLastsItsTicks := by
  unfold Obligations.ConversionWaitLastsItsTicks
  intro s hp hds hw htime hfits
  have hint : s.intTimeMs.toNat = 2 ^ s.timeCode.toNat := htime ▸ intTimeOf_toNat s.timeCode
  have hpos := Nat.two_pow_pos s.timeCode.toNat
  rw [← hint] at hpos hfits ⊢
  have hlasts := wait_lasts (u := s.waited) (Nat.add_pos_left hpos _) (fun n hn => conversion_tick hp hn (by omega))
    (fun n hn => hn ▸ conversion_lastTick hp hds hn (by omega))
  rw [waited_zero hw] at hlasts
  exact hlasts

/-! ### The poll loop (R202) -/

/-- A poll interval ends in the next status read, with the interval added to the poll counter. -/
theorem pollWait_lasts {s : State} (hp : s.phase = .rPollWait) (hds : s.ds = .measConv) (hw : s.waitCnt = 0#16)
    (hpos : 0 < s.pollIntervalMs.toNat) :
    blockTick^[s.pollIntervalMs.toNat] s =
      placeRequest descRdStatus { s.pollWaited s.pollIntervalMs.toNat with phase := .rPollRd } := by
  obtain ⟨-, hlast⟩ := wait_lasts (u := s.pollWaited) hpos (fun _ => pollWait_tick hp)
    (fun n hn => hn ▸ pollWait_lastTick hp hds hn)
  rwa [pollWaited_zero hw] at hlast

/-- READ of the block `s` has a status read outstanding, with the poll counter at `count`. -/
structure StatusReadAt (s : State) (count : Nat) (t : State) : Prop where
  phase : t.phase = .rPollRd
  pending : t.reqPending = true
  declared : t.ds = .measConv
  interval : t.pollIntervalMs = s.pollIntervalMs
  degraded : t.degraded = s.degraded
  pollCnt : t.pollCnt.toNat = min count 0xFFFF

/-- A round of the poll loop that starts within the budget leads to the next status read. -/
theorem pollRound_notReady {s : State} {d : Byte} (hp : s.phase = .rPollRd) (hr : s.reqPending = true) (hds : s.ds = .measConv)
    (hd : d.getLsbD Config.ndataBit = false) (hpos : 0 < s.pollIntervalMs.toNat) (hc : s.pollCnt.toNat < Config.pollBudgetMs) :
    pollRound d s = { s with
      waitCnt := s.pollIntervalMs
      pollCnt := BitVec.ofNat 16 (min (s.pollCnt.toNat + s.pollIntervalMs.toNat) 0xFFFF), req := descRdStatus } := by
  have hround := pollWait_lasts (s := { s with reqPending := false, waitCnt := 0#16, phase := .rPollWait }) rfl hds rfl hpos
  rw [pollRound, respond_notReady hr hp hd hc]
  refine hround.trans ?_
  simp [placeRequest, State.pollWaited, hp, hr]

theorem StatusReadAt.pollRound {s t : State} {d : Byte} {count : Nat} (h : StatusReadAt s count t)
    (hd : d.getLsbD Config.ndataBit = false) (hpos : 0 < s.pollIntervalMs.toNat) (hc : count < Config.pollBudgetMs) :
    StatusReadAt s (count + s.pollIntervalMs.toNat) (pollRound d t) := by
  obtain ⟨hp, hr, hds, hinterval, hdeg, hcount⟩ := h
  unfold Config.pollBudgetMs at hc
  have hbudget : t.pollCnt.toNat < 500 := by omega
  rw [pollRound_notReady hp hr hds hd (hinterval ▸ hpos) hbudget]
  refine ⟨hp, hr, hds, hinterval, hdeg, ?_⟩
  rw [count_toNat (by omega), hcount, hinterval]
  omega

/-- As long as the round before it starts within the budget, the status read after `k` rounds is made, at `k` intervals. -/
theorem pollRound_iterate {s : State} {d : Byte} (h : StatusReadAt s 0 s) (hd : d.getLsbD Config.ndataBit = false)
    (hpos : 0 < s.pollIntervalMs.toNat) :
    ∀ k, s.pollIntervalMs.toNat * (k - 1) < Config.pollBudgetMs →
      StatusReadAt s (s.pollIntervalMs.toNat * k) ((pollRound d)^[k] s) := by
  intro k
  induction k with
  | zero => exact fun _ => h
  | succ k ih =>
    intro hk
    rw [Nat.add_sub_cancel] at hk
    have hprev : s.pollIntervalMs.toNat * (k - 1) ≤ s.pollIntervalMs.toNat * k := Nat.mul_le_mul_left _ (Nat.sub_le k 1)
    rw [Function.iterate_succ_apply', Nat.mul_succ]
    exact (ih (by omega)).pollRound hd hpos hk

/-- A status read at or past the budget times out. -/
theorem StatusReadAt.timeout {s t : State} {d : Byte} {count : Nat} (h : StatusReadAt s count t)
    (hd : d.getLsbD Config.ndataBit = false) (hc : Config.pollBudgetMs ≤ count) :
    ∃ u, respond true [d] t = .next u ∧ u.phase = .rBlkRd ∧ u.degraded = true ∧ u.ds = .measConv := by
  have hover : Config.pollBudgetMs ≤ t.pollCnt.toNat := by
    rw [h.pollCnt]; unfold Config.pollBudgetMs at *; omega
  exact ⟨_, respond_timeout h.pending h.phase hd hover h.declared, rfl, rfl, h.declared⟩

/-- Settles O36: the rounds within the budget, then the timeout; at the default interval the numbers of the rule. -/
theorem pollLoopEndsAtTheReadNumbered101 : Obligations.PollLoopEndsAtTheReadNumbered101 := by
  unfold Obligations.PollLoopEndsAtTheReadNumbered101
  intro s d hp hr hds hc hd hpos
  have hreads := pollRound_iterate (s := s) ⟨hp, hr, hds, rfl, rfl, by rw [hc]; rfl⟩ hd hpos
  refine ⟨fun k hk => ?_, fun k hk hend => (hreads k hk).timeout hd hend, fun h5 => ?_⟩
  · have h := hreads k hk
    exact ⟨h.phase, h.pending, h.pollCnt, h.degraded⟩
  · rw [h5] at hreads
    refine ⟨fun k hk => ?_, (hreads 100 (by decide)).timeout hd (by decide)⟩
    have h := hreads k (show 5 * (k - 1) < 500 by omega)
    exact ⟨h.phase, h.pollCnt.trans (Nat.min_eq_left (show 5 * k ≤ 0xFFFF by omega))⟩

end Sys2Proof.Machine
end

section
/-! PROOFS. What one step can do to a block that satisfies the invariant, by the event that comes next (42_state_machine R207,
R208): no admitted event stops it, and only a response or a reset takes it out of a transaction phase. -/

namespace Sys2Proof.Machine

/-! ### The next event -/

/-- A step without an offer is nothing, an event of the environment, or an access of HOST that decodes. -/
theorem step_cases {s t : State} (ho : s.offer = none) (ht : step s = .next t) :
    s.schedule = [] ∧ t = s
    ∨ (∃ e rest, s.schedule = .env e :: rest ∧ environmentStep e { s with schedule := rest } = .next t)
    ∨ ∃ width desc w rest i, s.schedule = .host width desc w :: rest ∧ decodeAccess width desc w = .ok i
        ∧ exec i { s with schedule := rest } = .next t := by
  match hs : s.schedule with
  | [] =>
    rw [step_of_empty ho hs] at ht
    cases ht; exact .inl ⟨rfl, rfl⟩
  | .env e :: rest =>
    rw [step_of_env ho hs] at ht
    exact .inr (.inl ⟨e, rest, rfl, ht⟩)
  | .host width desc w :: rest =>
    match hd : decodeAccess width desc w with
    | .ok i =>
      rw [step_of_access ho hs hd] at ht
      exact .inr (.inr ⟨width, desc, w, rest, i, rfl, hd, ht⟩)
    | .error e =>
      rw [step_of_badAccess ho hs hd] at ht
      cases ht

/-- An access of HOST changes no more than `DONE`, `OVR` and the word HOST reads, or it is a command to an idle block. -/
theorem exec_access_cases {width : Nat} {desc : BitVec 9} {w : Word} {i : Instr} (s : State)
    (hd : decodeAccess width desc w = .ok i) :
    (∃ done ovr hostRdata, exec i s = .next { s with done := done, ovr := ovr, hostRdata := hostRdata })
    ∨ s.busy = false ∧ ((∃ g c, exec i s = .next (acceptInit g c s)) ∨ exec i s = .next (acceptRead s)
      ∨ ∃ code, exec i s = .next (rejectCommand code s)) := by
  obtain ⟨-, ⟨-, rfl⟩ | ⟨-, rfl⟩ | ⟨off, ha, ⟨h0, h4, -, rfl⟩ | ⟨-, rfl⟩⟩⟩ := decodeAccess_cases hd
  · have hexec : exec (.hwrCmd w) s = .next (commandWrite w s) := rfl
    obtain he | ⟨-, he⟩ | ⟨hb, he⟩ | ⟨hb, -, he⟩ | ⟨hb, code, -, he⟩ := commandWrite_cases w s
    all_goals rw [he] at hexec
    · exact .inl ⟨s.done, s.ovr, s.hostRdata, hexec⟩
    · exact .inl ⟨s.done, true, s.hostRdata, hexec⟩
    · exact .inr ⟨hb, .inl ⟨_, _, hexec⟩⟩
    · exact .inr ⟨hb, .inr (.inl hexec)⟩
    · exact .inr ⟨hb, .inr (.inr ⟨code, hexec⟩)⟩
  · exact .inl ⟨_, _, s.hostRdata, rfl⟩
  · exact .inl ⟨s.done, s.ovr, s.hostRdata, by simp [exec, execHwrOther, hostWrite, ha, h0, h4]⟩
  · exact .inl ⟨s.done, s.ovr, s.hostRegister off, by simp [exec, execHrd, hostRead, ha]⟩

/-! ### A transaction phase (R208) -/

/-- A tick in a transaction phase counts at most the poll counter. -/
theorem blockTick_transaction {s : State} (hp : s.phase.isTransaction = true) : ∃ c, blockTick s = { s with pollCnt := c } := by
  unfold blockTick
  split <;> rename_i hq
  case h_1 | h_2 | h_4 => rw [hq] at hp; cases hp
  case h_3 => exact ⟨_, rfl⟩
  all_goals exact ⟨s.pollCnt, rfl⟩

/-- In a transaction phase a step that is neither a response nor a reset leaves every register that tells how far the command
is. -/
theorem step_transaction {s t : State} (h : Inv s) (hp : s.phase.isTransaction = true) (ht : step s = .next t)
    (hresp : ∀ c rest, s.schedule ≠ .env (.transport c) :: rest) (hreset : ∀ rest, s.schedule ≠ .env .reset :: rest) :
    ∃ done ovr pollCnt dev abandoned hostRdata schedule, t = { s with
      done := done, ovr := ovr, pollCnt := pollCnt, dev := dev, abandoned := abandoned, hostRdata := hostRdata
      schedule := schedule } := by
  have hb : s.busy = true := h.busy_phase.mpr (by rintro hq; rw [hq] at hp; cases hp)
  obtain ⟨-, rfl⟩ | ⟨e, rest, hs, he⟩ | ⟨width, desc, w, rest, i, -, hd, he⟩ := step_cases h.no_offer ht
  · exact ⟨_, _, _, _, _, _, _, rfl⟩
  · cases e with
    | transport c => exact absurd hs (hresp c rest)
    | late k c =>
      simp only [environmentStep, lateAnswer] at he
      split at he <;> cases he
      exact ⟨_, _, _, _, _, _, _, rfl⟩
    | devReady m =>
      simp only [environmentStep, deviceReady] at he
      split at he <;> cases he
      exact ⟨_, _, _, _, _, _, _, rfl⟩
    | tick =>
      obtain ⟨c, hc⟩ := blockTick_transaction (s := { s with schedule := rest }) hp
      simp only [environmentStep, tickAll, hc] at he
      cases he
      exact ⟨_, _, _, _, _, _, _, rfl⟩
    | reset => exact absurd hs (hreset rest)
  · obtain ⟨_, _, _, hx⟩ | ⟨hidle, -⟩ := exec_access_cases { s with schedule := rest } hd
    · cases hx.symm.trans he
      exact ⟨_, _, _, _, _, _, _, rfl⟩
    · exact absurd (hb.symm.trans hidle) nofun

/-- Settles O51: the registers the statement names are none of those such a step can write. -/
theorem transactionPhaseIsLeftOnlyByItsResponse : Obligations.TransactionPhaseIsLeftOnlyByItsResponse := by
  unfold Obligations.TransactionPhaseIsLeftOnlyByItsResponse
  intro s t h hp ht hresp hreset
  obtain ⟨_, _, _, _, _, _, _, rfl⟩ := step_transaction h hp ht hresp hreset
  exact ⟨rfl, h.busy_phase.mpr (by rintro hq; rw [hq] at hp; cases hp), h.pending_phase.trans hp, rfl, rfl, rfl⟩

end Sys2Proof.Machine
end

section
/-! PROOFS. The block and the device together: what the transport's answer does in each transaction phase (44_device_contract R252
to R265), that no admitted event stops the machine (42_state_machine R207), and that the device stays what the phase takes it for
(42_state_machine R210). -/

namespace Sys2Proof.Machine

/-! ### The outstanding request is carried out -/

theorem transportCall_wrCtrl1 (addr : BitVec 7) (g t : Code) :
    transportCall addr (descWrCtrl1 g t) = some (.writeByte addr Config.ctrl1Addr (g ++ t)) := by
  have hkind : txnKind (descWrCtrl1 g t) = 0b00#2 := by revert g t; decide
  have hdata : txnData (descWrCtrl1 g t) = g ++ t := by
    rw [descWrCtrl1, descriptor]; exact BitVec.extractLsb'_append_eq_right
  obtain ⟨hreg, -⟩ := descWrCtrl1_fields g t
  rw [transportCall, if_pos hkind, hreg, hdata]

/-- The block whose bytes are those of a sample, each count little-endian (30_encoding R103). -/
def sampleBlock (m : Sample) : Block where
  b0 := m.temp.extractLsb' 0 8
  b1 := m.temp.extractLsb' 8 8
  b2 := m.a.extractLsb' 0 8
  b3 := m.a.extractLsb' 8 8
  b4 := m.b.extractLsb' 0 8
  b5 := m.b.extractLsb' 8 8
  b6 := m.c.extractLsb' 0 8
  b7 := m.c.extractLsb' 8 8

theorem decodeBlock_sampleBlock (m : Sample) : decodeBlock (sampleBlock m) = m := by
  simp only [decodeBlock, sampleBlock, bytes_of_count]

/-- The eight bytes of the result read: the sample of a device that is ready, else any. -/
def resultBlock (noise : Block) (d : Device) : Block := if d.mode = .measReady then sampleBlock d.sample else noise

theorem deviceReadBlock_results (noise : Block) (d : Device) :
    deviceReadBlock Config.tempAddr 8 noise d = (resultBlock noise d).bytes := by
  unfold deviceReadBlock resultBlock
  by_cases hm : d.mode = .measReady
  · rw [if_pos ⟨hm, rfl⟩, if_pos hm]; rfl
  · rw [if_neg (mt And.left hm), if_neg hm]; rfl

/-- A status byte with the new-data bit comes from a device that is not converting (44_device_contract R255). -/
theorem newData_clear_of_measConv {d : Device} (noise : Byte) (hm : d.mode = .measConv) :
    (deviceReadByte Config.statusAddr noise d).getLsbD Config.ndataBit = false := by
  simp [deviceReadByte, deviceStatus, isMeasMode, hm, Config.ndataBit]

theorem transportAnswer_of_not_pending {s : State} (c : Choice) (hr : s.reqPending = false) :
    transportAnswer c s = .next s := by
  simp [transportAnswer, hr]

theorem transportAnswer_fail {s : State} {c : Choice} (h : Inv s) (hr : s.reqPending = true) (hok : c.ok = false) :
    transportAnswer c s =
      .next (busFailure { s with reqPending := false, dev := (carryOut s.devAddr s.req c s.dev).1 }) := by
  rw [transportAnswer, if_pos hr, hok]
  exact respond_fail (s := { s with dev := (carryOut s.devAddr s.req c s.dev).1 }) hr _ (h.pending_phase.symm.trans hr)

/-! ### The ok of each transaction phase, at the block and at the device -/

section
variable {s : State} {c : Choice} (h : Inv s) (hok : c.ok = true)
include h hok

/-- The request of the phase is the outstanding one, and its ok is the block's response and the device's reaction to the call. -/
theorem answer_at {q : Phase} {r : Descriptor} {call : TransportCall} (hp : s.phase = q)
    (hreq : q.request s.gainCode s.timeCode = some r) (hcall : transportCall s.devAddr r = some call) :
    s.reqPending = true ∧ transportAnswer c s =
      respond true (deviceReact call c s.dev).2 { s with dev := (deviceReact call c s.dev).1 } := by
  subst hp
  have hr : s.reqPending = true := h.pending_phase.trans (isTransaction_of_request hreq)
  obtain rfl : s.req = r := Option.some.inj ((h.pending_request hr).symm.trans hreq)
  exact ⟨hr, by simp only [transportAnswer, carryOut, hr, hok, hcall, if_true]⟩

theorem answer_iWrOsr (hp : s.phase = .iWrOsr) : transportAnswer c s =
    .next (afterInitOsr { s with reqPending := false, dev := { s.dev with mode := .config } }) := by
  obtain ⟨hr, he⟩ := answer_at h hok hp rfl (call := .writeByte s.devAddr Config.osrAddr Config.osrCfg) rfl
  exact he.trans (respond_iWrOsr (s := { s with dev := _ }) hr hp)

theorem answer_iRdId (hp : s.phase = .iRdId) : transportAnswer c s =
    .next (afterIdentity (deviceReadByte Config.idAddr c.noise.b0 s.dev) { s with reqPending := false }) := by
  obtain ⟨hr, he⟩ := answer_at h hok hp rfl (call := .readByte s.devAddr Config.idAddr) rfl
  exact he.trans (respond_iRdId hr _ hp)

theorem answer_iWrCtrl1 (hp : s.phase = .iWrCtrl1) : transportAnswer c s =
    .next (afterCtrl1 { s with
      reqPending := false, dev := deviceWrite Config.ctrl1Addr (s.gainCode ++ s.timeCode) c.havoc s.dev }) := by
  obtain ⟨hr, he⟩ := answer_at h hok hp rfl (transportCall_wrCtrl1 s.devAddr s.gainCode s.timeCode)
  exact he.trans (respond_iWrCtrl1 (s := { s with dev := _ }) hr hp)

theorem answer_iWrCtrl2 (hp : s.phase = .iWrCtrl2) : transportAnswer c s =
    .next (afterCtrl2 { s with
      reqPending := false, dev := deviceWrite Config.ctrl2Addr Config.ctrl2Value c.havoc s.dev }) := by
  obtain ⟨hr, he⟩ := answer_at h hok hp rfl (call := .writeByte s.devAddr Config.ctrl2Addr Config.ctrl2Value) rfl
  exact he.trans (respond_iWrCtrl2 (s := { s with dev := _ }) hr hp)

theorem answer_rWrTrig (hp : s.phase = .rWrTrig) : transportAnswer c s =
    .next (afterTrigger { s with reqPending := false, dev := { s.dev with mode := .measConv, since := 0 } }) := by
  obtain ⟨hr, he⟩ := answer_at h hok hp rfl (call := .writeByte s.devAddr Config.osrAddr Config.osrMeasTrig) rfl
  exact he.trans (respond_rWrTrig (s := { s with dev := _ }) hr hp)

theorem answer_rPollRd (hp : s.phase = .rPollRd) : transportAnswer c s =
    .next (afterStatus (deviceReadByte Config.statusAddr c.noise.b0 s.dev) { s with reqPending := false }) := by
  obtain ⟨hr, he⟩ := answer_at h hok hp rfl (call := .readByte s.devAddr Config.statusAddr) rfl
  exact he.trans (respond_rPollRd hr _ hp)

theorem answer_rBlkRd (hp : s.phase = .rBlkRd) : transportAnswer c s =
    .next (afterResults (resultBlock c.noise s.dev) { s with reqPending := false }) := by
  obtain ⟨hr, he⟩ := answer_at h hok hp rfl (call := .readBlock s.devAddr Config.tempAddr 8) rfl
  rw [deviceReact, deviceReadBlock_results] at he
  exact he.trans (respond_rBlkRd hr _ hp)

theorem answer_rWrCfg (hp : s.phase = .rWrCfg) : transportAnswer c s =
    .next (afterReadOsr { s with reqPending := false, dev := { s.dev with mode := .config } }) := by
  obtain ⟨hr, he⟩ := answer_at h hok hp rfl (call := .writeByte s.devAddr Config.osrAddr Config.osrCfg) rfl
  exact he.trans (respond_rWrCfg (s := { s with dev := _ }) hr hp)

end

/-! ### No admitted event stops the machine (R207) -/

/-- The transport's answer always has the shape the phase waits for. -/
theorem transportAnswer_next {s : State} (h : Inv s) (c : Choice) : ∃ t, transportAnswer c s = .next t := by
  cases hr : s.reqPending with
  | false => exact ⟨_, transportAnswer_of_not_pending c hr⟩
  | true =>
    cases hok : c.ok with
    | false => exact ⟨_, transportAnswer_fail h hr hok⟩
    | true =>
      have htxn := h.pending_phase.symm.trans hr
      cases hp : s.phase with
      | idle | iSettle | rWait | rPollWait => rw [hp] at htxn; cases htxn
      | iWrOsr => exact ⟨_, answer_iWrOsr h hok hp⟩
      | iRdId => exact ⟨_, answer_iRdId h hok hp⟩
      | iWrCtrl1 => exact ⟨_, answer_iWrCtrl1 h hok hp⟩
      | iWrCtrl2 => exact ⟨_, answer_iWrCtrl2 h hok hp⟩
      | rWrTrig => exact ⟨_, answer_rWrTrig h hok hp⟩
      | rPollRd => exact ⟨_, answer_rPollRd h hok hp⟩
      | rBlkRd => exact ⟨_, answer_rBlkRd h hok hp⟩
      | rWrCfg => exact ⟨_, answer_rWrCfg h hok hp⟩

theorem environmentStep_next {s : State} {e : EnvEvent} (h : Inv s) (ha : Event.admitted (.env e) s) :
    ∃ t, environmentStep e s = .next t := by
  cases e with
  | transport c => exact transportAnswer_next h c
  | late k c =>
    have hk : s.abandoned[k]? = some s.abandoned[k] := List.getElem?_eq_getElem ha
    exact ⟨_, by rw [environmentStep, lateAnswer, hk]⟩
  | devReady m => exact ⟨_, if_pos ha⟩
  | tick => exact ⟨_, rfl⟩
  | reset => exact ⟨_, rfl⟩

theorem decodeAccess_admitted {width : Nat} {desc : BitVec 9} {w : Word} {s : State}
    (ha : Event.admitted (.host width desc w) s) : ∃ i, decodeAccess width desc w = .ok i := by
  obtain ⟨hwidth, hoff⟩ := ha
  rw [decodeAccess, if_neg (not_not_intro hwidth), hoff, if_neg (by decide)]
  split
  · exact ⟨_, rfl⟩
  split
  · exact ⟨_, rfl⟩
  split <;> exact ⟨_, rfl⟩

theorem exec_access_next {width : Nat} {desc : BitVec 9} {w : Word} {i : Instr} (s : State)
    (hd : decodeAccess width desc w = .ok i) : ∃ t, exec i s = .next t := by
  obtain ⟨_, _, _, he⟩ | ⟨-, ⟨_, _, he⟩ | he | ⟨_, he⟩⟩ := exec_access_cases s hd <;> exact ⟨_, he⟩

/-- Settles O50, by the next event: an access that decodes runs, and the environment's answer fits its phase. -/
theorem admittedEventsNeverStopTheMachine : Obligations.AdmittedEventsNeverStopTheMachine := by
  unfold Obligations.AdmittedEventsNeverStopTheMachine
  intro s h hadmitted
  match hs : s.schedule with
  | [] => exact ⟨s, step_of_empty h.no_offer hs⟩
  | .env e :: rest =>
    rw [step_of_env h.no_offer hs]
    exact environmentStep_next (s := { s with schedule := rest }) h.withUnread (hadmitted _ _ hs)
  | .host width desc w :: rest =>
    obtain ⟨i, hd⟩ := decodeAccess_admitted (hadmitted _ _ hs)
    rw [step_of_access h.no_offer hs hd]
    exact exec_access_next _ hd

/-! ### The device stays what the phase takes it for (R210) -/

/-- The arbiter's refusal would end the command, and an idle block claims nothing. -/
theorem deviceAgrees_issue {r : Descriptor} {s : State} (ha : deviceAgrees s) : deviceAgrees (issue r s) := by
  obtain ⟨-, he⟩ | ⟨-, he⟩ := issue_cases r s <;> rw [he]
  · exact ha
  · exact trivial

theorem deviceAgrees_busFailure (s : State) : deviceAgrees (busFailure s) := by
  rw [busFailure_eq]; exact trivial

section
variable {s : State} (ha : deviceAgrees s)
include ha

/-! What the device is taken for, by the phase. -/

theorem deviceAgrees_config (hp : s.phase ∈ [Phase.iSettle, .iRdId, .iWrCtrl1, .iWrCtrl2]) : s.dev.mode = .config := by
  unfold deviceAgrees at ha
  split at ha <;> simp_all

theorem deviceAgrees_meas (hp : s.phase ∈ [Phase.rWait, .rPollRd, .rPollWait]) :
    s.dev.mode = .measConv ∨ s.dev.mode = .measReady := by
  unfold deviceAgrees at ha
  split at ha <;> simp_all

theorem deviceAgrees_ready (hp : s.phase ∈ [Phase.rBlkRd, .rWrCfg]) (hd : s.degraded = false) : s.dev.mode = .measReady := by
  unfold deviceAgrees at ha
  split at ha <;> simp_all

/-- The new-data bit comes from a device that is ready; after a timeout nothing is claimed. -/
theorem afterStatus_agrees (noise : Byte) (hp : s.phase = .rPollRd) :
    deviceAgrees (afterStatus (deviceReadByte Config.statusAddr noise s.dev) { s with reqPending := false }) := by
  have hmode := deviceAgrees_meas ha (by rw [hp]; decide)
  unfold afterStatus
  split <;> rename_i hnew
  · have hready : s.dev.mode = .measReady := hmode.resolve_left fun hconv =>
      absurd ((newData_clear_of_measConv noise hconv).symm.trans hnew) nofun
    exact deviceAgrees_issue fun _ => hready
  split
  · exact hmode
  · exact deviceAgrees_issue nofun

/-- The bytes of a device that is ready are those of its sample. -/
theorem afterResults_agrees (noise : Block) (hp : s.phase = .rBlkRd) :
    deviceAgrees (afterResults (resultBlock noise s.dev) { s with reqPending := false }) := by
  refine deviceAgrees_issue fun hd => ?_
  have hready : s.dev.mode = .measReady := deviceAgrees_ready ha (by rw [hp]; decide) hd
  have hblock : resultBlock noise s.dev = sampleBlock s.dev.sample := if_pos hready
  exact ⟨hready, (congrArg decodeBlock hblock).trans (decodeBlock_sampleBlock _)⟩

/-- CTRL1 takes the codes of the command, since the device is in Configuration (44_device_contract R258). -/
theorem afterCtrl1_agrees (hv : Havoc) (hp : s.phase = .iWrCtrl1) : deviceAgrees (afterCtrl1 { s with
    reqPending := false, dev := deviceWrite Config.ctrl1Addr (s.gainCode ++ s.timeCode) hv s.dev }) := by
  have hconfig := deviceAgrees_config ha (by rw [hp]; decide)
  have hwrite (v : Byte) : deviceWrite Config.ctrl1Addr v hv s.dev = { s.dev with creg1 := v } :=
    (if_neg (by decide)).trans (if_pos ⟨hconfig, rfl⟩)
  rw [hwrite]
  exact deviceAgrees_issue ⟨hconfig, rfl⟩

theorem transportAnswer_agrees {t : State} {c : Choice} (h : Inv s) (ht : transportAnswer c s = .next t) :
    deviceAgrees t := by
  cases hr : s.reqPending with
  | false =>
    cases (transportAnswer_of_not_pending c hr).symm.trans ht
    exact ha
  | true =>
    cases hok : c.ok with
    | false =>
      cases (transportAnswer_fail h hr hok).symm.trans ht
      exact deviceAgrees_busFailure _
    | true =>
      have htxn := h.pending_phase.symm.trans hr
      cases hp : s.phase with
      | idle | iSettle | rWait | rPollWait => rw [hp] at htxn; cases htxn
      | iWrOsr => cases (answer_iWrOsr h hok hp).symm.trans ht; exact rfl
      | iRdId =>
        have hconfig := deviceAgrees_config ha (by rw [hp]; decide)
        cases (answer_iRdId h hok hp).symm.trans ht
        exact deviceAgrees_issue hconfig
      | iWrCtrl1 => cases (answer_iWrCtrl1 h hok hp).symm.trans ht; exact afterCtrl1_agrees ha _ hp
      | iWrCtrl2 => cases (answer_iWrCtrl2 h hok hp).symm.trans ht; exact trivial
      | rWrTrig => cases (answer_rWrTrig h hok hp).symm.trans ht; exact .inl rfl
      | rPollRd => cases (answer_rPollRd h hok hp).symm.trans ht; exact afterStatus_agrees ha _ hp
      | rBlkRd => cases (answer_rBlkRd h hok hp).symm.trans ht; exact afterResults_agrees ha _ hp
      | rWrCfg => cases (answer_rWrCfg h hok hp).symm.trans ht; exact trivial

/-- The end of a conversion makes a converting device ready, and no phase that claims anything else of it can be on. -/
theorem deviceReady_agrees {m : Sample} {t : State} (ht : deviceReady m s = .next t) : deviceAgrees t := by
  unfold deviceReady at ht
  split at ht <;> rename_i hconv <;> cases ht
  unfold deviceAgrees at ha ⊢
  dsimp only
  split <;> simp_all

theorem blockTick_agrees : deviceAgrees (blockTick s) := by
  unfold blockTick
  split <;> rename_i hp
  · have hconfig := deviceAgrees_config ha (by rw [hp]; decide)
    unfold tickSettle; dsimp only
    split
    · exact deviceAgrees_issue hconfig
    · exact ha
  · have hmode := deviceAgrees_meas ha (by rw [hp]; decide)
    unfold tickWait; dsimp only
    split
    · exact deviceAgrees_issue hmode
    · exact ha
  · exact ha
  · have hmode := deviceAgrees_meas ha (by rw [hp]; decide)
    unfold tickPollWait; dsimp only
    split
    · exact deviceAgrees_issue hmode
    · exact ha
  all_goals exact ha

/-- A tick at the device changes only its count of ticks, of which nothing is claimed. -/
theorem deviceTick_agrees : deviceAgrees { s with dev := deviceTick s.dev } := by
  unfold deviceTick
  split <;> exact ha

theorem tickAll_agrees : deviceAgrees (tickAll s) := by
  obtain ⟨-, -, -, hdev⟩ := blockTick_params s
  rw [tickAll, ← hdev]
  exact deviceTick_agrees (blockTick_agrees ha)

theorem environmentStep_agrees {e : EnvEvent} {t : State} (h : Inv s) (hnone : s.abandoned = [])
    (ht : environmentStep e s = .next t) : deviceAgrees t := by
  cases e with
  | transport c => exact transportAnswer_agrees ha h ht
  | late k c => simp [environmentStep, lateAnswer, hnone] at ht
  | devReady m => exact deviceReady_agrees ha ht
  | tick => cases ht; exact tickAll_agrees ha
  | reset => cases ht; exact trivial

/-- An accepted command claims nothing before its first OSR write is answered. -/
theorem exec_access_agrees {width : Nat} {desc : BitVec 9} {w : Word} {i : Instr} {t : State}
    (hd : decodeAccess width desc w = .ok i) (ht : exec i s = .next t) : deviceAgrees t := by
  obtain ⟨_, _, _, he⟩ | ⟨-, ⟨_, _, he⟩ | he | ⟨_, he⟩⟩ := exec_access_cases s hd <;> cases he.symm.trans ht
  · exact ha
  · rw [acceptInit_eq]; exact trivial
  · rw [acceptRead_eq]; exact trivial
  · exact ha

end

/-- Settles O58, by the event that comes next. -/
theorem deviceAgreementIsKept : Obligations.DeviceAgreementIsKept := by
  unfold Obligations.DeviceAgreementIsKept
  intro s t h hnone ha ht
  obtain ⟨-, rfl⟩ | ⟨e, rest, -, he⟩ | ⟨_, _, _, rest, _, -, hd, he⟩ := step_cases h.no_offer ht
  · exact ha
  · exact environmentStep_agrees (s := { s with schedule := rest }) ha h.withUnread hnone he
  · exact exec_access_agrees (s := { s with schedule := rest }) ha hd he

end Sys2Proof.Machine
end

section
/-! PROOFS. The conversion engine (43_conversion): the factors, the divisor, what the irradiance is where the divisor is positive,
the temperature, and what a READ commits. -/

namespace Sys2Proof.Machine

/-! ### The factors and the divisor -/

theorem gainFactorOf_toNat (c : Code) : (gainFactorOf c).toNat = 2 ^ c.toNat := intTimeOf_toNat c

/-- Settles O38, by the value of each factor. -/
theorem factorsArePowersOfTwo : Obligations.FactorsArePowersOfTwo := by
  unfold Obligations.FactorsArePowersOfTwo
  exact fun c => ⟨gainFactorOf_toNat c, intTimeOf_toNat c⟩

/-- The divisor is the sensitivity times 2 to the sum of the codes (R231). -/
theorem divisor_of_codes (sens : Word) (g t : Code) :
    sens.toNat * (gainFactorOf g).toNat * (intTimeOf t).toNat = sens.toNat * 2 ^ (g.toNat + t.toNat) := by
  rw [gainFactorOf_toNat, intTimeOf_toNat, mul_assoc, ← pow_add]

theorem divisor_mono (sens : Word) {g t g' t' : Code} (hg : g.toNat ≤ g'.toNat) (ht : t.toNat ≤ t'.toNat) :
    sens.toNat * (gainFactorOf g).toNat * (intTimeOf t).toNat ≤ sens.toNat * (gainFactorOf g').toNat * (intTimeOf t').toNat := by
  rw [divisor_of_codes, divisor_of_codes]
  exact Nat.mul_le_mul_left _ (Nat.pow_le_pow_right two_pos (Nat.add_le_add hg ht))

/-! ### The irradiance -/

theorem irradiance_of_zero {raw : Count} {sens : Word} (g t : Count) (h : raw = 0#16 ∨ sens = 0#32) :
    irradiance raw sens g t = (0#32, false) :=
  if_pos h

/-- The factors enter the irradiance through the divisor alone. -/
theorem irradiance_congr (raw : Count) {sens : Word} {g t g' t' : Count}
    (h : sens.toNat * g.toNat * t.toNat = sens.toNat * g'.toNat * t'.toNat) :
    irradiance raw sens g t = irradiance raw sens g' t' := by
  simp only [irradiance, h]

section
variable {raw : Count} {sens : Word} {g t : Count} (hr : raw ≠ 0#16) (hs : sens ≠ 0#32) (hg : g ≠ 0#16) (ht : t ≠ 0#16)
include hr hs hg ht

/-- Away from the guards the irradiance is the capped quotient, and the saturation bit says that the cap was needed. -/
theorem irradiance_eq_capped {q : Nat} (hq : q = raw.toNat * 2 ^ 32 / (sens.toNat * g.toNat * t.toNat)) :
    irradiance raw sens g t = (BitVec.ofNat 32 (min q 0xFFFFFFFF), decide (0xFFFFFFFF < q)) := by
  have hguard : ¬(raw = 0#16 ∨ sens = 0#32) := not_or.mpr ⟨hr, hs⟩
  have hd : sens.toNat * g.toNat * t.toNat ≠ 0 := (divisor_pos hs hg ht).ne'
  rw [irradiance, if_neg hguard, if_neg hd, ← hq]
  split <;> rename_i hcap
  · rw [min_eq_right hcap.le, decide_eq_true hcap]
  · rw [min_eq_left (not_lt.mp hcap), decide_eq_false hcap]

theorem irradiance_toNat : (irradiance raw sens g t).1.toNat =
    min (raw.toNat * 2 ^ 32 / (sens.toNat * g.toNat * t.toNat)) 0xFFFFFFFF := by
  rw [irradiance_eq_capped hr hs hg ht rfl, BitVec.toNat_ofNat]
  exact Nat.mod_eq_of_lt (by omega)

theorem irradiance_saturated_iff :
    (irradiance raw sens g t).2 = true ↔ 0xFFFFFFFF < raw.toNat * 2 ^ 32 / (sens.toNat * g.toNat * t.toNat) := by
  rw [irradiance_eq_capped hr hs hg ht rfl, decide_eq_true_iff]

/-- The quotient reaches 2^32 exactly when the divisor is not above the raw count. -/
theorem irradiance_saturated_iff_divisor_le :
    (irradiance raw sens g t).2 = true ↔ sens.toNat * g.toNat * t.toNat ≤ raw.toNat := by
  have hd := divisor_pos hs hg ht
  rw [irradiance_saturated_iff hr hs hg ht]
  generalize sens.toNat * g.toNat * t.toNat = d at hd
  calc 0xFFFFFFFF < raw.toNat * 2 ^ 32 / d
      ↔ 2 ^ 32 * d ≤ raw.toNat * 2 ^ 32 := Nat.le_div_iff_mul_le hd
    _ ↔ d ≤ raw.toNat := by omega

theorem irradiance_of_saturated (h : (irradiance raw sens g t).2 = true) : (irradiance raw sens g t).1 = 0xFFFFFFFF#32 := by
  have hcap := (irradiance_saturated_iff hr hs hg ht).mp h
  exact BitVec.eq_of_toNat_eq ((irradiance_toNat hr hs hg ht).trans (min_eq_right hcap.le))

theorem irradiance_of_not_saturated (h : (irradiance raw sens g t).2 = false) :
    (irradiance raw sens g t).1.toNat = raw.toNat * 2 ^ 32 / (sens.toNat * g.toNat * t.toNat) := by
  have hcap := (irradiance_saturated_iff hr hs hg ht).not.mp (Bool.eq_false_iff.mp h)
  exact (irradiance_toNat hr hs hg ht).trans (min_eq_left (not_lt.mp hcap))

end

/-- Settles O39, by the zero guard and, away from it, the capped quotient. -/
theorem irradianceIsTheQuotient : Obligations.IrradianceIsTheQuotient := by
  unfold Obligations.IrradianceIsTheQuotient
  exact fun _ _ g t => ⟨irradiance_of_zero g t,
    fun hr hs hg ht => ⟨irradiance_toNat hr hs hg ht, irradiance_saturated_iff hr hs hg ht⟩⟩

/-- Settles O40: the quotient passes 0xFFFFFFFF exactly when the divisor is not above the raw count. -/
theorem irradianceSaturatesExactlyFromD : Obligations.IrradianceSaturatesExactlyFromD := by
  unfold Obligations.IrradianceSaturatesExactlyFromD
  exact fun _ _ _ _ hr hs hg ht =>
    ⟨irradiance_saturated_iff_divisor_le hr hs hg ht, irradiance_of_saturated hr hs hg ht⟩

/-- Settles O41: unsaturated, the stored value is the quotient itself. -/
theorem irradianceIsTheExactFloor : Obligations.IrradianceIsTheExactFloor := by
  unfold Obligations.IrradianceIsTheExactFloor
  intro raw sens g t hr hs hg ht hsat
  rw [irradiance_of_not_saturated hr hs hg ht hsat]
  exact ⟨Nat.div_mul_le_self _ _, Nat.lt_mul_of_div_lt (Nat.lt_succ_self _) (divisor_pos hs hg ht)⟩

/-- Settles O42: a greater code gives a divisor that is not less, and so a quotient that is not more. -/
theorem irradianceDoesNotIncreaseWithTheCodes : Obligations.IrradianceDoesNotIncreaseWithTheCodes := by
  unfold Obligations.IrradianceDoesNotIncreaseWithTheCodes
  intro raw sens g t g' t' hgg htt
  by_cases hzero : raw = 0#16 ∨ sens = 0#32
  · rw [irradiance_of_zero _ _ hzero, irradiance_of_zero _ _ hzero]
  · obtain ⟨hr, hs⟩ := not_or.mp hzero
    have hg (c : Code) : gainFactorOf c ≠ 0#16 := (factor_ne_zero c).1
    have ht (c : Code) : intTimeOf c ≠ 0#16 := (factor_ne_zero c).2
    rw [irradiance_toNat hr hs (hg g') (ht t'), irradiance_toNat hr hs (hg g) (ht t)]
    exact min_le_min_right _ (Nat.div_le_div_left (divisor_mono sens hgg htt) (divisor_pos hs (hg g) (ht t)))

/-- Settles O43: codes with one sum give one divisor. -/
theorem irradianceDependsOnTheSumOfTheCodes : Obligations.IrradianceDependsOnTheSumOfTheCodes := by
  unfold Obligations.IrradianceDependsOnTheSumOfTheCodes
  intro raw sens g t g' t' hsum
  apply irradiance_congr
  rw [divisor_of_codes, divisor_of_codes, hsum]

/-! ### The temperature -/

/-- Settles O44: the difference of two numbers below 2^16 is a 32-bit signed number. -/
theorem temperatureIsExact : Obligations.TemperatureIsExact := by
  unfold Obligations.TemperatureIsExact
  intro raw
  have hlt := raw.isLt
  have hraw : (raw.setWidth 32).toInt = raw.toNat :=
    (BitVec.toInt_setWidth raw).trans (Int.bmod_eq_of_le (by omega) (by omega))
  have hoffset : Config.tempOffsetRaw.toInt = 10240 := rfl
  rw [temperature, BitVec.toInt_sub, hraw, hoffset]
  exact Int.bmod_eq_of_le (by omega) (by omega)

/-! ### What a READ commits -/

/-- The end of the command leaves the committed results as they are. -/
theorem afterReadOsr_results (s : State) : (afterReadOsr s).results = (commitResults s).results := rfl

theorem commitResults_results_congr {s s' : State} (hb : s.blk = s'.blk) (hg : s.gainFactor = s'.gainFactor)
    (ht : s.intTimeMs = s'.intTimeMs) (hA : s.sensA = s'.sensA) (hB : s.sensB = s'.sensB) (hC : s.sensC = s'.sensC) :
    (commitResults s).results = (commitResults s').results := by
  simp [State.results, State.raw0Word, State.raw1Word, hb, hg, ht, hA, hB, hC]

/-- Settles O45: READ's end is the commit, which reads nothing else of the state. -/
theorem resultsDependOnlyOnTheReadsOwnData : Obligations.ResultsDependOnlyOnTheReadsOwnData := by
  unfold Obligations.ResultsDependOnlyOnTheReadsOwnData
  intro s s' t t' hp hp' hr hr' hb hg ht hA hB hC hs hs'
  cases (respond_rWrCfg hr hp).symm.trans hs
  cases (respond_rWrCfg hr' hp').symm.trans hs'
  rw [afterReadOsr_results, afterReadOsr_results]
  exact commitResults_results_congr hb hg ht hA hB hC

end Sys2Proof.Machine
end

section
/-! PROOFS. The device by itself (44_device_contract): no instruction reads or changes it (R252), what a transaction does at it
when the transport answers ok (R253, R255 to R258) and when it fails (R264, R265), when a conversion may end (R254), and what a
finished INIT (R259) and a finished READ (R270) leave. -/

namespace Sys2Proof.Machine

/-! ### Instructions beside another device (R252) -/

/-- The same outcome beside another device. -/
def withDevice (d : Device) : Result → Result
  | .next t => .next { t with dev := d }
  | .fault r => .fault r
  | .refused r => .refused r

/-- A command is the write of its word to `CMD`. -/
theorem exec_of_encode_cmd {i : Instr} {w : Word} (s : State) (h : encode i = .cmd w) :
    exec i s = .next (commandWrite w s) := by
  have hwf : i.wf = true := by
    cases i with
    | hwrOther _ _ | hrd _ => cases h
    | _ => rfl
  have hdecode := decodeInvertsEncode i hwf
  rw [h] at hdecode
  rw [← Except.ok.inj hdecode]
  exact exec_decodeCmd w s

/-- An instruction is a write to `CMD`, an `issue`, a host write or a host read, whatever the state. -/
theorem exec_forms (i : Instr) :
    (∃ w, ∀ s, exec i s = .next (commandWrite w s)) ∨ (∃ t, ∀ s, exec i s = .next (issue t s))
    ∨ (∃ off w, ∀ s, exec i s = hostWrite off w s) ∨ ∃ off, ∀ s, exec i s = hostRead off s := by
  cases i with
  | nop | init _ _ | read | rsv3 | rsv4to7 _ | rsv8to15 _ => exact .inl ⟨_, fun s => exec_of_encode_cmd s rfl⟩
  | wrOsrCfg | wrOsrTrig | rdId | wrCtrl1 _ _ | wrCtrl2 | rdStatus | rdResults =>
    exact .inr (.inl ⟨_, fun s => exec_of_encode_txn s rfl⟩)
  | hwrCmd w => exact .inr (.inr (.inl ⟨0x00#8, w, fun _ => rfl⟩))
  | hwrStatus w => exact .inr (.inr (.inl ⟨0x04#8, w, fun _ => rfl⟩))
  | hwrOther off w => exact .inr (.inr (.inl ⟨off, w, fun _ => rfl⟩))
  | hrd off => exact .inr (.inr (.inr ⟨off, fun _ => rfl⟩))

theorem commandWrite_withDev (w : Word) (s : State) (d : Device) :
    commandWrite w { s with dev := d } = { commandWrite w s with dev := d } := by
  simp only [commandWrite, acceptInit_eq, acceptRead_eq]
  repeat' split
  all_goals rfl

theorem hostWrite_withDev (off : Byte) (w : Word) (s : State) (d : Device) :
    hostWrite off w { s with dev := d } = withDevice d (hostWrite off w s) := by
  simp only [hostWrite, commandWrite_withDev]
  repeat' split
  all_goals rfl

theorem hostRead_withDev (off : Byte) (s : State) (d : Device) :
    hostRead off { s with dev := d } = withDevice d (hostRead off s) := by
  unfold hostRead; split <;> rfl

theorem exec_withDev (i : Instr) (s : State) (d : Device) :
    exec i { s with dev := d } = withDevice d (exec i s) := by
  obtain ⟨w, he⟩ | ⟨t, he⟩ | ⟨off, w, he⟩ | ⟨off, he⟩ := exec_forms i <;> rw [he, he]
  · exact congrArg _ (commandWrite_withDev w s d)
  · exact congrArg _ (issue_withDev t s d)
  · exact hostWrite_withDev off w s d
  · exact hostRead_withDev off s d

theorem exec_ne_fault (i : Instr) (s : State) (r : Fault) : exec i s ≠ .fault r := by
  obtain ⟨w, he⟩ | ⟨t, he⟩ | ⟨off, w, he⟩ | ⟨off, he⟩ := exec_forms i <;> rw [he]
  · exact nofun
  · exact nofun
  · obtain ⟨-, hw⟩ | hw | hw | hw := hostWrite_cases off w s <;> rw [hw] <;> exact nofun
  · unfold hostRead; split <;> exact nofun

/-- Settles O25: an instruction commutes with exchanging the device, so beside its own device it keeps it. -/
theorem instructionsDoNotTouchTheDevice : Obligations.InstructionsDoNotTouchTheDevice := by
  unfold Obligations.InstructionsDoNotTouchTheDevice
  refine fun s i d => ⟨fun t ht => ⟨?_, ?_⟩, fun r hr => ?_, exec_ne_fault i s⟩
  · have hown : exec i s = withDevice s.dev (exec i s) := exec_withDev i s s.dev
    rw [ht] at hown
    have hself : t = { t with dev := s.dev } := Host.Outcome.next.inj hown
    exact (congrArg State.dev hself :)
  · rw [exec_withDev, ht]; rfl
  · rw [exec_withDev, hr]; rfl

/-! ### What a transaction does at the device (R253 to R258, R264, R265) -/

theorem deviceWrite_ctrl1 {d : Device} (v : Byte) (hv : Havoc) (hm : d.mode = .config) :
    deviceWrite Config.ctrl1Addr v hv d = { d with creg1 := v } := by
  simp [deviceWrite, hm, Config.osrAddr, Config.ctrl1Addr]

theorem deviceWrite_ctrl2 {d : Device} (v : Byte) (hv : Havoc) (hm : d.mode = .config) :
    deviceWrite Config.ctrl2Addr v hv d = { d with creg2 := v } := by
  simp [deviceWrite, hm, Config.osrAddr, Config.ctrl1Addr, Config.ctrl2Addr]

theorem deviceWrite_ctrl3 {d : Device} (v : Byte) (hv : Havoc) (hm : d.mode = .config) :
    deviceWrite Config.ctrl3Addr v hv d = { d with creg3 := v } := by
  simp [deviceWrite, hm, Config.osrAddr, Config.ctrl1Addr, Config.ctrl2Addr, Config.ctrl3Addr]

theorem deviceReadByte_id {d : Device} (noise : Byte) (hm : d.mode = .config) :
    deviceReadByte Config.idAddr noise d = d.idbyte := by
  simp [deviceReadByte, isMeasMode, hm]

/-- The other half of R255 beside `newData_clear_of_measConv`. -/
theorem newData_set_of_measReady {d : Device} (noise : Byte) (hm : d.mode = .measReady) :
    (deviceReadByte Config.statusAddr noise d).getLsbD Config.ndataBit = true := by
  simp [deviceReadByte, deviceStatus, isMeasMode, hm, Config.ndataBit]

/-- The descriptor of a byte write is the call of that write (44_device_contract R263). -/
theorem transportCall_writeByte (addr : BitVec 7) (reg v : Byte) :
    transportCall addr (reg.setWidth 24 <<< 8 ||| v.setWidth 24) = some (.writeByte addr reg v) := by
  have hdesc : descriptor 0b00#2 0#3 reg v = reg.setWidth 24 <<< 8 ||| v.setWidth 24 := by
    rw [descriptor_eq]; simp
  have hkind : txnKind (descriptor 0b00#2 0#3 reg v) = 0b00#2 := by
    rw [txnKind, descriptor]
    simp (disch := omega) only [BitVec.extractLsb'_append_eq_of_le]
    simp
  have hreg : txnReg (descriptor 0b00#2 0#3 reg v) = reg := by
    rw [txnReg, descriptor]
    simp (disch := omega) only [BitVec.extractLsb'_append_eq_of_le, BitVec.extractLsb'_append_eq_of_add_le]
    simp
  have hdata : txnData (descriptor 0b00#2 0#3 reg v) = v := BitVec.extractLsb'_append_eq_right
  rw [← hdesc, transportCall, if_pos hkind, hreg, hdata]

section
variable {addr : BitVec 7} {t : Descriptor} {c : Choice} {d : Device}

theorem carryOut_of_noCall (hcall : transportCall addr t = none) : carryOut addr t c d = (d, []) := by
  rw [carryOut, hcall]

variable {call : TransportCall} (hcall : transportCall addr t = some call)
include hcall

theorem carryOut_ok (hok : c.ok = true) : carryOut addr t c d = deviceReact call c d := by
  simp only [carryOut, hcall, hok, if_true]

theorem carryOut_acted (hok : c.ok = false) (hf : c.failEffect = .acted) :
    carryOut addr t c d = ((deviceReact call c d).1, []) := by
  simp only [carryOut, hcall, hok, hf, Bool.false_eq_true, if_false]

theorem carryOut_notActed (hok : c.ok = false) (hf : c.failEffect = .notActed) : carryOut addr t c d = (d, []) := by
  simp only [carryOut, hcall, hok, hf, Bool.false_eq_true, if_false]

theorem carryOut_anyState (hok : c.ok = false) (hf : c.failEffect = .anyState) :
    carryOut addr t c d = (havocDevice c.havoc d, []) := by
  simp only [carryOut, hcall, hok, hf, Bool.false_eq_true, if_false]

end

theorem carryOut_writeByte {addr : BitVec 7} {c : Choice} {d : Device} (reg v : Byte) (hok : c.ok = true) :
    carryOut addr (reg.setWidth 24 <<< 8 ||| v.setWidth 24) c d = (deviceWrite reg v c.havoc d, []) :=
  carryOut_ok (transportCall_writeByte addr reg v) hok

/-- Settles O54: each descriptor is a byte write, and the device takes the byte by its register. -/
theorem deviceTakesTheWrittenByte : Obligations.DeviceTakesTheWrittenByte := by
  unfold Obligations.DeviceTakesTheWrittenByte
  intro addr c d v hok
  have hpowerDown (h6 : v.getLsbD 6 = true) : deviceWrite Config.osrAddr v c.havoc d = { d with mode := .off } := by
    simp [deviceWrite, deviceWriteOsr, h6]
  refine ⟨fun h6 => ?_, ?_, ?_, ?_, fun hm => ?_, fun hm => ?_, fun hm => ?_⟩
  · exact (carryOut_writeByte Config.osrAddr v hok).trans (by rw [hpowerDown h6])
  · exact carryOut_writeByte Config.osrAddr Config.osrCfg hok
  · exact carryOut_writeByte Config.osrAddr Config.osrMeasTrig hok
  · exact carryOut_writeByte Config.osrAddr Config.osrMeasIdle hok
  · exact (carryOut_writeByte Config.ctrl1Addr v hok).trans (by rw [deviceWrite_ctrl1 v _ hm])
  · exact (carryOut_writeByte Config.ctrl2Addr v hok).trans (by rw [deviceWrite_ctrl2 v _ hm])
  · exact (carryOut_writeByte Config.ctrl3Addr v hok).trans (by rw [deviceWrite_ctrl3 v _ hm])

/-- Settles O55: each descriptor is a read, and the device answers by its state. -/
theorem deviceAnswersReads : Obligations.DeviceAnswersReads := by
  unfold Obligations.DeviceAnswersReads
  intro addr c d hok
  have hid : carryOut addr 0x400200#24 c d = (d, [deviceReadByte Config.idAddr c.noise.b0 d]) :=
    carryOut_ok (call := .readByte addr Config.idAddr) rfl hok
  have hstatus : carryOut addr 0x400000#24 c d = (d, [deviceReadByte Config.statusAddr c.noise.b0 d]) :=
    carryOut_ok (call := .readByte addr Config.statusAddr) rfl hok
  have hblock : carryOut addr 0xB80100#24 c d = (d, (resultBlock c.noise d).bytes) := by
    rw [carryOut_ok (call := .readBlock addr Config.tempAddr 8) rfl hok, deviceReact, deviceReadBlock_results]
  refine ⟨fun hm => ?_, fun hm => ⟨_, hstatus, newData_set_of_measReady _ hm⟩,
    fun hm => ⟨_, hstatus, newData_clear_of_measConv _ hm⟩, fun hm => ⟨_, hblock, ?_⟩, _, hblock⟩
  · rw [hid, deviceReadByte_id _ hm]
  · rw [resultBlock, if_pos hm, decodeBlock_sampleBlock]

/-- Settles O57, by what the failed transaction did. -/
theorem failedTransactionReturnsNoByte : Obligations.FailedTransactionReturnsNoByte := by
  unfold Obligations.FailedTransactionReturnsNoByte
  intro addr t c d hok
  cases hcall : transportCall addr t with
  | none =>
    simp only [carryOut_of_noCall hcall, ne_eq, not_true_eq_false, false_implies, implies_true, and_self]
  | some call =>
    refine ⟨?_, fun hf => ?_, fun hf => ?_, fun hf _ => ?_⟩
    · cases hf : c.failEffect with
      | acted => rw [carryOut_acted hcall hok hf]
      | notActed => rw [carryOut_notActed hcall hok hf]
      | anyState => rw [carryOut_anyState hcall hok hf]
    · rw [carryOut_notActed hcall hok hf]
    · rw [carryOut_acted hcall hok hf, carryOut_ok (c := { c with ok := true }) hcall rfl]; rfl
    · rw [carryOut_anyState hcall hok hf]; rfl

/-! ### The end of a conversion (R254) -/

/-- The time code is the low nibble of CTRL1 (30_encoding R99). -/
theorem timeCode_toNat (v : Byte) : (v.extractLsb' 0 4).toNat = v.toNat % 16 := by
  rw [BitVec.extractLsb'_toNat]; rfl

/-- Settles O56: the step is `deviceReady`, whose test is the contract's. -/
theorem conversionEndsNoSoonerThanItsTime : Obligations.ConversionEndsNoSoonerThanItsTime := by
  unfold Obligations.ConversionEndsNoSoonerThanItsTime
  intro s m rest ho hs
  rw [← timeCode_toNat, ← and_imp, step_of_env ho hs, environmentStep, deviceReady]
  dsimp only
  split <;> rename_i htest
  · exact ⟨iff_of_true ⟨_, rfl⟩ htest, fun _ => rfl⟩
  · exact ⟨iff_of_false (fun ⟨_, ht⟩ => nomatch ht) htest, fun h => absurd h htest⟩

/-! ### The end of INIT and of READ (R259, R270) -/

/-- Settles O59: the last write reaches a device that is in Configuration and holds the codes. -/
theorem successfulInitConfiguresTheDevice : Obligations.SuccessfulInitConfiguresTheDevice := by
  unfold Obligations.SuccessfulInitConfiguresTheDevice
  intro s t c rest h _ ha hp hs hok ht
  have hbusy : s.busy = true := h.busy_phase.mpr (by rw [hp]; decide)
  obtain ⟨hconfig, hcodes⟩ : s.dev.mode = .config ∧ s.dev.creg1 = s.gainCode ++ s.timeCode := by
    simpa only [deviceAgrees, hp] using ha
  rw [step_of_env h.no_offer hs, environmentStep, answer_iWrCtrl2 (s := { s with schedule := rest }) h.withUnread hok hp,
    deviceWrite_ctrl2 _ _ hconfig] at ht
  cases ht
  exact ⟨rfl, h.busy_clean hbusy, hconfig, hcodes, rfl⟩

/-- Settles O60: the block holds the sample of the ready device, and the last write only takes it back to Configuration. -/
theorem readReturnsTheDevicesSample : Obligations.ReadReturnsTheDevicesSample := by
  unfold Obligations.ReadReturnsTheDevicesSample
  intro s t c rest h _ ha hp hdeg hs hok ht
  have hbusy : s.busy = true := h.busy_phase.mpr (by rw [hp]; decide)
  have hagrees : s.degraded = false → s.dev.mode = .measReady ∧ decodeBlock s.blk = s.dev.sample := by
    simpa only [deviceAgrees, hp] using ha
  obtain ⟨-, hsample⟩ := hagrees hdeg
  rw [step_of_env h.no_offer hs, environmentStep, answer_rWrCfg (s := { s with schedule := rest }) h.withUnread hok hp] at ht
  cases ht
  rw [← hsample]
  exact ⟨rfl, hdeg, h.busy_clean hbusy, rfl, hsample.symm, rfl, rfl, rfl, rfl⟩

end Sys2Proof.Machine
end

section
/-! PROOFS. When `irq` rises (60_exceptions R280, R287): `DONE` is set by the response that ends a command or by a rejection, and
by nothing else, since under the invariant the arbiter refuses nothing. -/

namespace Sys2Proof.Machine

/-! ### An access of HOST -/

/-- A write to `CMD` raises `DONE` only by a rejection, since an accepted command lowers it (40_host_commands R133, R134). -/
theorem commandWrite_raises_done {w : Word} {s : State} (hs : s.done = false) (ht : (commandWrite w s).done = true) :
    s.busy = false ∧ ((commandWrite w s).err = .illegalCmd ∨ (commandWrite w s).err = .notInit) := by
  obtain he | ⟨-, he⟩ | ⟨-, he⟩ | ⟨-, -, he⟩ | ⟨hb, code, hcode, he⟩ := commandWrite_cases w s <;> rw [he] at ht ⊢
  · exact absurd (hs.symm.trans ht) nofun
  · exact absurd (hs.symm.trans ht) nofun
  · rw [acceptInit_eq] at ht; cases ht
  · rw [acceptRead_eq] at ht; cases ht
  · exact ⟨hb, hcode.imp_right And.left⟩

theorem hostWrite_raises_done {off : Byte} {w : Word} {s t : State} (h : hostWrite off w s = .next t) (hs : s.done = false)
    (ht : t.done = true) : s.busy = false ∧ (t.err = .illegalCmd ∨ t.err = .notInit) := by
  obtain ⟨-, he⟩ | he | he | he := hostWrite_cases off w s <;> cases he.symm.trans h
  · exact commandWrite_raises_done hs ht
  · simp [hs] at ht
  · exact absurd (hs.symm.trans ht) nofun

theorem exec_access_raises_done {width : Nat} {desc : BitVec 9} {w : Word} {i : Instr} {s t : State}
    (hd : decodeAccess width desc w = .ok i) (h : exec i s = .next t) (hs : s.done = false) (ht : t.done = true) :
    s.busy = false ∧ (t.err = .illegalCmd ∨ t.err = .notInit) := by
  obtain ⟨-, ⟨-, rfl⟩ | ⟨-, rfl⟩ | ⟨off, ha, ⟨-, -, -, rfl⟩ | ⟨-, rfl⟩⟩⟩ := decodeAccess_cases hd
  · exact hostWrite_raises_done (off := 0x00#8) (w := w) h hs ht
  · exact hostWrite_raises_done (off := 0x04#8) (w := w) h hs ht
  · exact hostWrite_raises_done (off := off) (w := w) h hs ht
  · cases (if_neg (by simp [ha])).symm.trans h
    exact absurd (hs.symm.trans ht) nofun

/-! ### A response and a tick -/

/-- `issue` leaves `DONE` and `ERR` alone, or the arbiter's refusal stands in `ERR`. -/
theorem issue_done_err (r : Descriptor) (s : State) :
    (issue r s).err = .arbViolation ∨ (issue r s).done = s.done ∧ (issue r s).err = s.err := by
  obtain ⟨-, he⟩ | ⟨-, he⟩ := issue_cases r s <;> rw [he]
  · exact .inr ⟨rfl, rfl⟩
  · exact .inl rfl

theorem issue_done (r : Descriptor) (s : State) : (issue r s).err = .arbViolation ∨ (issue r s).done = s.done :=
  (issue_done_err r s).imp_right And.left

theorem issue_err (r : Descriptor) (s : State) : (issue r s).err = .arbViolation ∨ (issue r s).err = s.err :=
  (issue_done_err r s).imp_right And.right

/-- A tick ends no command, unless the arbiter refuses what it issues. -/
theorem blockTick_done (s : State) : (blockTick s).err = .arbViolation ∨ (blockTick s).done = s.done := by
  unfold blockTick
  split
  · unfold tickSettle; dsimp only
    split
    · exact issue_done _ _
    · exact .inr rfl
  · unfold tickWait; dsimp only
    split
    · exact issue_done _ _
    · exact .inr rfl
  · exact .inr rfl
  · unfold tickPollWait; dsimp only
    split
    · exact issue_done _ _
    · exact .inr rfl
  all_goals exact .inr rfl

theorem afterStatus_err (d : Byte) (s : State) : (afterStatus d s).err = .arbViolation ∨ (afterStatus d s).err = s.err := by
  unfold afterStatus
  split
  · exact issue_err _ _
  split
  · exact .inr rfl
  · exact issue_err _ _

/-- No ok writes an error, unless the arbiter refuses what it issues. -/
theorem responseOk_err {data : List Byte} {s t : State} (h : responseOk data s = .next t) :
    t.err = .arbViolation ∨ t.err = s.err := by
  obtain ⟨-, -, rfl⟩ | ⟨-, d, -, rfl⟩ | ⟨-, -, rfl⟩ | ⟨-, -, rfl⟩ | ⟨-, -, rfl⟩ | ⟨-, d, -, rfl⟩ | ⟨-, b, -, rfl⟩
    | ⟨-, -, rfl⟩ := responseOk_cases h
  · exact .inr rfl
  · exact issue_err _ _
  · exact issue_err _ _
  · exact .inr rfl
  · exact .inr rfl
  · exact afterStatus_err d s
  · exact issue_err _ _
  · exact .inr rfl

theorem respond_err {ok : Bool} {data : List Byte} {s t : State} (h : respond ok data s = .next t) :
    t.err = .busFail ∨ t.err = .arbViolation ∨ t.err = s.err := by
  unfold respond at h
  split at h
  · split at h
    · exact .inr (responseOk_err (s := { s with reqPending := false }) h)
    · unfold responseFail at h
      split at h <;> cases h
      rw [busFailure_eq]
      exact .inl rfl
  · cases h; exact .inr (.inr rfl)

/-! ### The step -/

/-- The transport answers a command in progress, which ends without an error or by the bus failure (R280). -/
theorem transportAnswer_raises_done {c : Choice} {s t : State} (h : Inv s) (hinv : Inv t)
    (he : transportAnswer c s = .next t) (hs : s.done = false) (ht : t.done = true) :
    s.busy = true ∧ (t.err = .none ∨ t.err = .busFail) := by
  unfold transportAnswer at he
  split at he <;> rename_i hr
  · have hp : s.phase.isTransaction = true := h.pending_phase.symm.trans hr
    have hb : s.busy = true := h.busy_phase.mpr (by rintro hq; rw [hq] at hp; cases hp)
    obtain hfail | harb | hkeep := respond_err he
    · exact ⟨hb, .inr hfail⟩
    · exact absurd harb hinv.no_violation
    · exact ⟨hb, .inl (hkeep.trans (h.busy_clean hb))⟩
  · cases he
    exact absurd (hs.symm.trans ht) nofun

theorem environmentStep_raises_done {e : EnvEvent} {s t : State} (h : Inv s) (hinv : Inv t)
    (he : environmentStep e s = .next t) (hs : s.done = false) (ht : t.done = true) :
    s.busy = true ∧ (t.err = .none ∨ t.err = .busFail) := by
  cases e with
  | transport c => exact transportAnswer_raises_done h hinv he hs ht
  | late k c =>
    simp only [environmentStep, lateAnswer] at he
    split at he <;> cases he
    exact absurd (hs.symm.trans ht) nofun
  | devReady m =>
    simp only [environmentStep, deviceReady] at he
    split at he <;> cases he
    exact absurd (hs.symm.trans ht) nofun
  | tick =>
    cases he
    have hdone : (blockTick s).done = s.done := (blockTick_done s).resolve_left hinv.no_violation
    exact absurd (hs.symm.trans (hdone.symm.trans ht)) nofun
  | reset => cases he; cases ht

/-- A command that has ended is no longer in progress. -/
theorem Inv.idle_of_done {s : State} (h : Inv s) (hdone : s.done = true) : s.busy = false ∧ s.phase = .idle := by
  have hb : ¬s.busy = true := fun hb => absurd ((h.busy_done hb).symm.trans hdone) nofun
  exact ⟨by simpa using hb, not_not.mp (mt h.busy_phase.mpr hb)⟩

/-- Settles O52, by the event that comes next: from busy a response, else a rejection; the rest is the invariant after the
step. -/
theorem interruptRisesOnlyWhenACommandEnds : Obligations.InterruptRisesOnlyWhenACommandEnds := by
  unfold Obligations.InterruptRisesOnlyWhenACommandEnds
  intro s t h ht hs hdone
  have hinv : Inv t := everyStepKeepsTheInvariant s t h ht
  obtain ⟨hb, hp⟩ := hinv.idle_of_done hdone
  refine ⟨hb, hp, ?_⟩
  obtain ⟨-, rfl⟩ | ⟨e, rest, -, he⟩ | ⟨_, _, _, rest, _, -, hd, he⟩ := step_cases h.no_offer ht
  · exact absurd (hs.symm.trans hdone) nofun
  · exact .inl (environmentStep_raises_done (s := { s with schedule := rest }) h.withUnread hinv he hs hdone)
  · exact .inr (exec_access_raises_done (s := { s with schedule := rest }) hd he hs hdone)

end Sys2Proof.Machine
end

section
/-! PROOFS. Reset (70_reset_and_hazards R320, R321): what a reset of the block leaves, at power-up and later, and what HOST then
reads. -/

namespace Sys2Proof.Machine

/-! ### The registers after a reset (R321) -/

theorem blockReset_statusWord (s : State) : (blockReset s).statusWord = 0#32 := by
  simp [State.statusWord, ErrCode.code, DState.code, Phase.code]

theorem blockReset_configWord (s : State) : (blockReset s).configWord = 0#32 := by
  simp [State.configWord]

theorem blockReset_factorsWord (s : State) : (blockReset s).factorsWord = 0#32 := by
  simp [State.factorsWord]

theorem blockReset_raw0Word (s : State) : (blockReset s).raw0Word = 0#32 := by
  simp [State.raw0Word]

theorem blockReset_raw1Word (s : State) : (blockReset s).raw1Word = 0#32 := by
  simp [State.raw1Word]

/-- Every row of the register table holds 0, and so do the offsets without a register. -/
theorem blockReset_hostRegister (s : State) (off : Byte) : (blockReset s).hostRegister off = 0#32 := by
  simp only [State.hostRegister, blockReset_statusWord, blockReset_configWord, blockReset_factorsWord, blockReset_raw0Word,
    blockReset_raw1Word, blockReset_irrA, blockReset_irrB, blockReset_irrC, blockReset_temp, ite_self]

/-- Power-up is a reset (R320): a block at its power-up values is what a reset of it leaves. -/
theorem blockReset_reset : blockReset State.reset = State.reset := rfl

/-- Settles O46: the fields by the power-up state itself, the reads as those after any reset. -/
theorem resetLeavesTheListedValues : Obligations.ResetLeavesTheListedValues := by
  unfold Obligations.ResetLeavesTheListedValues
  have hreads (off : Byte) : State.reset.hostRegister off = 0#32 := by
    rw [← blockReset_reset, blockReset_hostRegister]
  exact ⟨rfl, rfl, rfl, rfl, rfl, rfl, rfl, rfl, rfl, rfl, rfl, rfl, rfl, rfl, rfl, rfl, rfl, rfl, rfl, rfl, rfl, rfl, rfl, rfl,
    rfl, rfl, rfl, rfl, rfl, rfl, rfl, rfl, rfl, hreads⟩

/-! ### The reset event (R320) -/

/-- An outstanding request joins those abandoned before, and nothing else does. -/
theorem blockReset_abandoned_eq_append (s : State) :
    (blockReset s).abandoned = s.abandoned ++ (if s.reqPending then [s.req] else []) := by
  cases hp : s.reqPending <;> simp [hp]

/-- Settles O47: the step is the reset of the block, whose list of abandoned requests grows by the outstanding one. -/
theorem resetClearsTheBlockOnly : Obligations.ResetClearsTheBlockOnly := by
  unfold Obligations.ResetClearsTheBlockOnly
  intro s rest ho hs
  rw [step_of_env ho hs, environmentStep, ← blockReset_abandoned_eq_append, blockReset, ho]
  rfl

end Sys2Proof.Machine
end
